-- ==== Sys2Proof/Word.lean ====
section
/-! DEFINITION. The word types of the kreep CORE (00_scope.md rules R7, R8, R10). -/

namespace Sys2Proof

/-- A `GF256Element` (00_scope.md R18): 8 bits, bit `n` is the coefficient of `x^n`. -/
abbrev Byte := BitVec 8

/-- A `GF256Vector`, a schedule word, or a command word: 32 bits. -/
abbrev Word32 := BitVec 32

/-- A general register, a block, a `GF128Element`: 128 bits (00_scope.md R8). -/
abbrev Block := BitVec 128

/-- A register index `0..7` (10_state.md R20; 30_encoding.md R74: every value is legal). -/
abbrev RegIdx := Fin 8

/-- The unsigned immediate `imm8` (30_encoding.md R73). -/
abbrev Imm8 := BitVec 8

end Sys2Proof
end

