-- ==== Sys2Proof/Config.lean ====
section
/-! DEFINITION. What the spec fixes as parameters, and the one parameter it leaves open. -/

namespace Sys2Proof

/-- `NREG`, the number of general registers (00_scope.md R8). -/
abbrev Config.nReg : Nat := 8

/-- The number of key-schedule words, `4 * (N_ROUND + 1)` with `N_ROUND = 14` (00_scope.md R7). -/
abbrev Config.nRk : Nat := 60

/-- Master key length in bytes (00_scope.md R7; 49_composition.md R353). -/
abbrev Config.keyBytes : Nat := 32

/-- Nonce length in bytes (00_scope.md R7; 49_composition.md R353). -/
abbrev Config.nonceBytes : Nat := 12

/-- Tag length in bytes (00_scope.md R7; 49_composition.md R353). -/
abbrev Config.tagBytes : Nat := 16

/-- `MAX_MSG_BYTES`, the largest plaintext or associated-data length a host accepts: the one parameter the spec
leaves OPEN (00_scope.md R9, 92_eei_decisions.md D24). All that is known of it is that it is below `2^61`. -/
opaque Config.maxMsgBytes : Fin (2 ^ 61)

end Sys2Proof
end

