-- ==== Sys2Proof/Syntax.lean ====
section
/-! DEFINITION. The 41 commands of 30_encoding.md rule R75 as syntax, one constructor per row of the opcode table,
and the shapes the decoder's table is made of. -/

namespace Sys2Proof

/-- The eight formats of 30_encoding.md R72: which fields a command uses. -/
inductive Format where
  | N | D | S | DS | DSS | DSI | DI | SS
deriving DecidableEq, Repr

/-- The causes of a fault that a command can raise (60_exceptions.md R401, codes 1 to 4). Each of them is taken as
a NEXT state by `Machine.raise`; none of them stops the model. -/
inductive FaultCause where
  /-- Code 1: `op` is not one of the 41 opcodes (R403). -/
  | illegalOpcode
  /-- Code 2: a must-be-zero field is non-zero (R404). -/
  | reservedField
  /-- Code 3: `imm8` is outside the command's legal range (R405). -/
  | immRange
  /-- Code 4: a reader of `RK` while `KV = 0` (R406). -/
  | keyNotValid
deriving DecidableEq, Repr

/-- The commands, operands in the order of R75's "operands" column. -/
inductive Instr where
  -- system (48_system.md)
  | sysNop
  | sysLd (rd : RegIdx)
  | sysSt (rs1 : RegIdx)
  | sysMov (rd rs1 : RegIdx)
  -- GF(2^8) scalar (41_gf256.md)
  | gf8Add (rd rs1 rs2 : RegIdx)
  | gf8Xt (rd rs1 : RegIdx)
  | gf8Mul (rd rs1 rs2 : RegIdx)
  | gf8Pow (rd rs1 : RegIdx) (n : Imm8)
  | gf8Inv (rd rs1 : RegIdx)
  | gf8Sbox (rd rs1 : RegIdx)
  | gf8Isbox (rd rs1 : RegIdx)
  -- GF(2^8) vectors and matrix (42_gf256_vec.md)
  | gfvAdd (rd rs1 rs2 : RegIdx)
  | gfvRotl (rd rs1 : RegIdx) (k : Imm8)
  | gfvDot (rd rs1 rs2 : RegIdx)
  | gfvSubw (rd rs1 : RegIdx)
  | gfvRcon (rd rs1 : RegIdx) (j : Imm8)
  | gfmMulv (rd rs1 rs2 : RegIdx)
  -- GF(2^128) (43_gf128.md)
  | gfqAdd (rd rs1 rs2 : RegIdx)
  | gfqXt (rd rs1 : RegIdx)
  | gfqMul (rd rs1 rs2 : RegIdx)
  | gfqDot (rd rs1 rs2 : RegIdx)
  -- key schedule (44_aes_key.md)
  | aesKexp (rs1 rs2 : RegIdx)
  | aesRkrd (rd : RegIdx) (r : Imm8)
  -- AES forward (45_aes_enc.md)
  | aesSub (rd rs1 : RegIdx)
  | aesShr (rd rs1 : RegIdx)
  | aesMix (rd rs1 : RegIdx)
  | aesArk (rd rs1 : RegIdx) (r : Imm8)
  | aesEncr (rd rs1 : RegIdx) (r : Imm8)
  | aesEncl (rd rs1 : RegIdx)
  | aesEnc (rd rs1 : RegIdx)
  -- AES inverse (46_aes_dec.md)
  | aesIsub (rd rs1 : RegIdx)
  | aesIshr (rd rs1 : RegIdx)
  | aesImix (rd rs1 : RegIdx)
  | aesDecr (rd rs1 : RegIdx) (r : Imm8)
  | aesDecf (rd rs1 : RegIdx)
  | aesDec (rd rs1 : RegIdx)
  -- CTR, POLYVAL, SIV steps (47_ctr_polyval_siv.md)
  | ctrInc (rd rs1 : RegIdx)
  | pvStep (rd rs1 rs2 : RegIdx)
  | sivClr7 (rd rs1 : RegIdx)
  | sivSet7 (rd rs1 : RegIdx)
  | sivCmp (rd rs1 rs2 : RegIdx)
deriving DecidableEq, Repr

/-- One row of the opcode map of R75: the opcode, the mnemonic, the format, and the command built from the word's
operand fields `rd`, `rs1`, `rs2`, `imm8`. -/
structure OpRow where
  op : BitVec 8
  mnemonic : String
  format : Format
  build : RegIdx → RegIdx → RegIdx → Imm8 → Instr

end Sys2Proof
end

