-- ==== Sys2Proof/WellFormed.lean ====
section
/-! DEFINITION. Which commands are well formed: the legal immediates of 30_encoding.md rule R73. Register indices
need no check, since all eight are legal (R74). -/

namespace Sys2Proof

/-- The immediate is in the range R73 and R405 give the command. -/
def Instr.wellFormed : Instr → Bool
  | .gfvRcon _ _ j => decide (1 ≤ j.toNat ∧ j.toNat ≤ 10)
  | .aesRkrd _ r => decide (r.toNat ≤ 14)
  | .aesArk _ _ r => decide (r.toNat ≤ 14)
  | .aesEncr _ _ r => decide (1 ≤ r.toNat ∧ r.toNat ≤ 13)
  | .aesDecr _ _ r => decide (1 ≤ r.toNat ∧ r.toNat ≤ 13)
  | .sysNop | .sysLd _ | .sysSt _ | .sysMov _ _ => true
  | .gf8Add _ _ _ | .gf8Xt _ _ | .gf8Mul _ _ _ | .gf8Pow _ _ _ | .gf8Inv _ _ | .gf8Sbox _ _ | .gf8Isbox _ _ => true
  | .gfvAdd _ _ _ | .gfvRotl _ _ _ | .gfvDot _ _ _ | .gfvSubw _ _ | .gfmMulv _ _ _ => true
  | .gfqAdd _ _ _ | .gfqXt _ _ | .gfqMul _ _ _ | .gfqDot _ _ _ => true
  | .aesKexp _ _ | .aesSub _ _ | .aesShr _ _ | .aesMix _ _ | .aesEncl _ _ | .aesEnc _ _ => true
  | .aesIsub _ _ | .aesIshr _ _ | .aesImix _ _ | .aesDecf _ _ | .aesDec _ _ => true
  | .ctrInc _ _ | .pvStep _ _ _ | .sivClr7 _ _ | .sivSet7 _ _ | .sivCmp _ _ _ => true

/-- The command reads `RK`, so it needs `KV = 1` (10_state.md section 1, 60_exceptions.md R406: eight commands). -/
def Instr.needsKey : Instr → Bool
  | .aesRkrd _ _ | .aesArk _ _ _ | .aesEncr _ _ _ | .aesEncl _ _ | .aesEnc _ _ => true
  | .aesDecr _ _ _ | .aesDecf _ _ | .aesDec _ _ => true
  | .sysNop | .sysLd _ | .sysSt _ | .sysMov _ _ => false
  | .gf8Add _ _ _ | .gf8Xt _ _ | .gf8Mul _ _ _ | .gf8Pow _ _ _ | .gf8Inv _ _ | .gf8Sbox _ _ | .gf8Isbox _ _ => false
  | .gfvAdd _ _ _ | .gfvRotl _ _ _ | .gfvDot _ _ _ | .gfvSubw _ _ | .gfvRcon _ _ _ | .gfmMulv _ _ _ => false
  | .gfqAdd _ _ _ | .gfqXt _ _ | .gfqMul _ _ _ | .gfqDot _ _ _ => false
  | .aesKexp _ _ | .aesSub _ _ | .aesShr _ _ | .aesMix _ _ => false
  | .aesIsub _ _ | .aesIshr _ _ | .aesImix _ _ => false
  | .ctrInc _ _ | .pvStep _ _ _ | .sivClr7 _ _ | .sivSet7 _ _ | .sivCmp _ _ _ => false

/-- The destination register a command writes, if its format has one (30_encoding.md R75). -/
def Instr.dest : Instr → Option RegIdx
  | .sysNop | .sysSt _ | .aesKexp _ _ => none
  | .sysLd rd | .sysMov rd _ => some rd
  | .gf8Add rd _ _ | .gf8Xt rd _ | .gf8Mul rd _ _ | .gf8Pow rd _ _ | .gf8Inv rd _ | .gf8Sbox rd _
  | .gf8Isbox rd _ => some rd
  | .gfvAdd rd _ _ | .gfvRotl rd _ _ | .gfvDot rd _ _ | .gfvSubw rd _ | .gfvRcon rd _ _ | .gfmMulv rd _ _ => some rd
  | .gfqAdd rd _ _ | .gfqXt rd _ | .gfqMul rd _ _ | .gfqDot rd _ _ => some rd
  | .aesRkrd rd _ | .aesSub rd _ | .aesShr rd _ | .aesMix rd _ | .aesArk rd _ _ | .aesEncr rd _ _
  | .aesEncl rd _ | .aesEnc rd _ => some rd
  | .aesIsub rd _ | .aesIshr rd _ | .aesImix rd _ | .aesDecr rd _ _ | .aesDecf rd _ | .aesDec rd _ => some rd
  | .ctrInc rd _ | .pvStep rd _ _ | .sivClr7 rd _ | .sivSet7 rd _ | .sivCmp rd _ _ => some rd

/-- The registers whose values a command reads: its source operands (30_encoding.md R75), and for `PV.STEP` its
destination too (47_ctr_polyval_siv.md R301). -/
def Instr.sources : Instr → List RegIdx
  | .sysNop | .sysLd _ | .aesRkrd _ _ => []
  | .sysSt rs1 | .sysMov _ rs1 => [rs1]
  | .gf8Xt _ rs1 | .gf8Pow _ rs1 _ | .gf8Inv _ rs1 | .gf8Sbox _ rs1 | .gf8Isbox _ rs1 => [rs1]
  | .gfvRotl _ rs1 _ | .gfvSubw _ rs1 | .gfvRcon _ rs1 _ | .gfqXt _ rs1 => [rs1]
  | .aesSub _ rs1 | .aesShr _ rs1 | .aesMix _ rs1 | .aesArk _ rs1 _ | .aesEncr _ rs1 _ | .aesEncl _ rs1
  | .aesEnc _ rs1 => [rs1]
  | .aesIsub _ rs1 | .aesIshr _ rs1 | .aesImix _ rs1 | .aesDecr _ rs1 _ | .aesDecf _ rs1 | .aesDec _ rs1 => [rs1]
  | .ctrInc _ rs1 | .sivClr7 _ rs1 | .sivSet7 _ rs1 => [rs1]
  | .gf8Add _ rs1 rs2 | .gf8Mul _ rs1 rs2 | .gfvAdd _ rs1 rs2 | .gfvDot _ rs1 rs2 | .gfmMulv _ rs1 rs2 => [rs1, rs2]
  | .gfqAdd _ rs1 rs2 | .gfqMul _ rs1 rs2 | .gfqDot _ rs1 rs2 | .aesKexp rs1 rs2 | .sivCmp _ rs1 rs2 => [rs1, rs2]
  | .pvStep rd rs1 rs2 => [rd, rs1, rs2]

end Sys2Proof
end

