-- ==== Sys2Proof/Decode.lean ====
section
/-! DEFINITION. The command word: its fields (30_encoding.md R71), the formats and their must-be-zero fields (R72),
the opcode map (R75), decoding (R77 steps 1 and 2) and, after it, encoding. -/

namespace Sys2Proof

/-! ## Fields of the command word (R71) -/

/-- `op`, bits 31:24. -/
def opField (w : Word32) : BitVec 8 := w.extractLsb' 24 8

/-- `rd`, bits 23:21. -/
def rdField (w : Word32) : RegIdx := (w.extractLsb' 21 3).toFin

/-- `rs1`, bits 20:18. -/
def rs1Field (w : Word32) : RegIdx := (w.extractLsb' 18 3).toFin

/-- `rs2`, bits 17:15. -/
def rs2Field (w : Word32) : RegIdx := (w.extractLsb' 15 3).toFin

/-- `rsv`, bits 14:8, zero in every command (R79). -/
def rsvField (w : Word32) : BitVec 7 := w.extractLsb' 8 7

/-- `imm8`, bits 7:0. -/
def immField (w : Word32) : Imm8 := w.extractLsb' 0 8

/-- The mask of fixed bits of a format: `op` and every must-be-zero field (the last column of R72's table). -/
def Format.mask : Format → Word32
  | .N => 0xFFFFFFFF#32
  | .D => 0xFF1FFFFF#32
  | .S => 0xFFE3FFFF#32
  | .DS => 0xFF03FFFF#32
  | .DSS => 0xFF007FFF#32
  | .DSI => 0xFF03FF00#32
  | .DI => 0xFF1FFF00#32
  | .SS => 0xFFE07FFF#32

/-- `match(X) = op(X) << 24` (R72). -/
def matchWord (op : BitVec 8) : Word32 := op.setWidth 32 <<< 24

/-! ## The opcode map (R75) -/

/-- R75, family `0x0_` (R76): system. -/
def opRows_system : List OpRow := [
  ⟨0x00#8, "SYS.NOP", .N, fun _ _ _ _ => .sysNop⟩,
  ⟨0x01#8, "SYS.LD", .D, fun rd _ _ _ => .sysLd rd⟩,
  ⟨0x02#8, "SYS.ST", .S, fun _ rs1 _ _ => .sysSt rs1⟩,
  ⟨0x03#8, "SYS.MOV", .DS, fun rd rs1 _ _ => .sysMov rd rs1⟩]

/-- R75, family `0x1_` (R76): GF(2^8) scalar. -/
def opRows_gf8 : List OpRow := [
  ⟨0x10#8, "GF8.ADD", .DSS, fun rd rs1 rs2 _ => .gf8Add rd rs1 rs2⟩,
  ⟨0x11#8, "GF8.XT", .DS, fun rd rs1 _ _ => .gf8Xt rd rs1⟩,
  ⟨0x12#8, "GF8.MUL", .DSS, fun rd rs1 rs2 _ => .gf8Mul rd rs1 rs2⟩,
  ⟨0x13#8, "GF8.POW", .DSI, fun rd rs1 _ imm => .gf8Pow rd rs1 imm⟩,
  ⟨0x14#8, "GF8.INV", .DS, fun rd rs1 _ _ => .gf8Inv rd rs1⟩,
  ⟨0x15#8, "GF8.SBOX", .DS, fun rd rs1 _ _ => .gf8Sbox rd rs1⟩,
  ⟨0x16#8, "GF8.ISBOX", .DS, fun rd rs1 _ _ => .gf8Isbox rd rs1⟩]

/-- R75, family `0x2_` (R76): GF(2^8) vector and matrix. -/
def opRows_gfv : List OpRow := [
  ⟨0x20#8, "GFV.ADD", .DSS, fun rd rs1 rs2 _ => .gfvAdd rd rs1 rs2⟩,
  ⟨0x21#8, "GFV.ROTL", .DSI, fun rd rs1 _ imm => .gfvRotl rd rs1 imm⟩,
  ⟨0x22#8, "GFV.DOT", .DSS, fun rd rs1 rs2 _ => .gfvDot rd rs1 rs2⟩,
  ⟨0x23#8, "GFV.SUBW", .DS, fun rd rs1 _ _ => .gfvSubw rd rs1⟩,
  ⟨0x24#8, "GFV.RCON", .DSI, fun rd rs1 _ imm => .gfvRcon rd rs1 imm⟩,
  ⟨0x25#8, "GFM.MULV", .DSS, fun rd rs1 rs2 _ => .gfmMulv rd rs1 rs2⟩]

/-- R75, family `0x3_` (R76): GF(2^128). -/
def opRows_gfq : List OpRow := [
  ⟨0x30#8, "GFQ.ADD", .DSS, fun rd rs1 rs2 _ => .gfqAdd rd rs1 rs2⟩,
  ⟨0x31#8, "GFQ.XT", .DS, fun rd rs1 _ _ => .gfqXt rd rs1⟩,
  ⟨0x32#8, "GFQ.MUL", .DSS, fun rd rs1 rs2 _ => .gfqMul rd rs1 rs2⟩,
  ⟨0x33#8, "GFQ.DOT", .DSS, fun rd rs1 rs2 _ => .gfqDot rd rs1 rs2⟩]

/-- R75, family `0x4_` (R76): key schedule. -/
def opRows_key : List OpRow := [
  ⟨0x40#8, "AES.KEXP", .SS, fun _ rs1 rs2 _ => .aesKexp rs1 rs2⟩,
  ⟨0x41#8, "AES.RKRD", .DI, fun rd _ _ imm => .aesRkrd rd imm⟩]

/-- R75, family `0x5_` (R76): AES forward. -/
def opRows_enc : List OpRow := [
  ⟨0x50#8, "AES.SUB", .DS, fun rd rs1 _ _ => .aesSub rd rs1⟩,
  ⟨0x51#8, "AES.SHR", .DS, fun rd rs1 _ _ => .aesShr rd rs1⟩,
  ⟨0x52#8, "AES.MIX", .DS, fun rd rs1 _ _ => .aesMix rd rs1⟩,
  ⟨0x53#8, "AES.ARK", .DSI, fun rd rs1 _ imm => .aesArk rd rs1 imm⟩,
  ⟨0x54#8, "AES.ENCR", .DSI, fun rd rs1 _ imm => .aesEncr rd rs1 imm⟩,
  ⟨0x55#8, "AES.ENCL", .DS, fun rd rs1 _ _ => .aesEncl rd rs1⟩,
  ⟨0x56#8, "AES.ENC", .DS, fun rd rs1 _ _ => .aesEnc rd rs1⟩]

/-- R75, family `0x6_` (R76): AES inverse. -/
def opRows_dec : List OpRow := [
  ⟨0x60#8, "AES.ISUB", .DS, fun rd rs1 _ _ => .aesIsub rd rs1⟩,
  ⟨0x61#8, "AES.ISHR", .DS, fun rd rs1 _ _ => .aesIshr rd rs1⟩,
  ⟨0x62#8, "AES.IMIX", .DS, fun rd rs1 _ _ => .aesImix rd rs1⟩,
  ⟨0x63#8, "AES.DECR", .DSI, fun rd rs1 _ imm => .aesDecr rd rs1 imm⟩,
  ⟨0x64#8, "AES.DECF", .DS, fun rd rs1 _ _ => .aesDecf rd rs1⟩,
  ⟨0x65#8, "AES.DEC", .DS, fun rd rs1 _ _ => .aesDec rd rs1⟩]

/-- R75, family `0x7_` (R76): CTR, POLYVAL and SIV steps. -/
def opRows_siv : List OpRow := [
  ⟨0x70#8, "CTR.INC", .DS, fun rd rs1 _ _ => .ctrInc rd rs1⟩,
  ⟨0x71#8, "PV.STEP", .DSS, fun rd rs1 rs2 _ => .pvStep rd rs1 rs2⟩,
  ⟨0x72#8, "SIV.CLR7", .DS, fun rd rs1 _ _ => .sivClr7 rd rs1⟩,
  ⟨0x73#8, "SIV.SET7", .DS, fun rd rs1 _ _ => .sivSet7 rd rs1⟩,
  ⟨0x74#8, "SIV.CMP", .DSS, fun rd rs1 rs2 _ => .sivCmp rd rs1 rs2⟩]

/-- The 41 rows of R75, in its order. -/
def opcodeTable : List OpRow :=
  opRows_system ++ opRows_gf8 ++ opRows_gfv ++ opRows_gfq ++ opRows_key ++ opRows_enc ++ opRows_dec ++ opRows_siv

/-- The row of an opcode, if it has one; the 215 other values of `op` have none (R78). -/
def rowOf (op : BitVec 8) : Option OpRow := opcodeTable.find? (fun r => r.op == op)

/-! ## Decoding -/

/-- R77, steps (1) and (2): a word whose `op` is not in R75 is `illegalOpcode`; otherwise one with a non-zero
must-be-zero field is `reservedField`; otherwise it encodes the row's command (R72: exactly when
`word & mask(X) == match(X)`). Steps (3) and (4) of R77 are the first lines of the command's own rule and stand in
its meaning: log entry 4. -/
def decode (w : Word32) : Except FaultCause Instr :=
  match rowOf (opField w) with
  | none => .error .illegalOpcode
  | some row =>
    if w &&& row.format.mask = matchWord row.op then
      .ok (row.build (rdField w) (rs1Field w) (rs2Field w) (immField w))
    else .error .reservedField

/-- The command the decoder reads from a table row's bits: commands are single 32-bit words (R70), bit 0 least
significant, and bits above `nbits` are zero. -/
def decodeTableWord (nbits w : Nat) : Option Instr :=
  if nbits ≤ 32 then (decode (BitVec.ofNat 32 (w % 2 ^ nbits))).toOption else none

/-! ## Encoding -/

/-- A register index as a 3-bit field. -/
def regBits (r : RegIdx) : BitVec 3 := BitVec.ofFin r

/-- `word = op<<24 | rd<<21 | rs1<<18 | rs2<<15 | rsv<<8 | imm8` (R71), with `rsv = 0` (R79). -/
def packWord (op : BitVec 8) (rd rs1 rs2 : RegIdx) (imm : Imm8) : Word32 :=
  op.setWidth 32 <<< 24 ||| (regBits rd).setWidth 32 <<< 21 ||| (regBits rs1).setWidth 32 <<< 18 |||
    (regBits rs2).setWidth 32 <<< 15 ||| imm.setWidth 32

/-- Format `N`: no field. -/
def Format.wordN (op : BitVec 8) : Word32 := packWord op 0 0 0 0

/-- Format `D`: `rd`. -/
def Format.wordD (op : BitVec 8) (rd : RegIdx) : Word32 := packWord op rd 0 0 0

/-- Format `S`: `rs1`. -/
def Format.wordS (op : BitVec 8) (rs1 : RegIdx) : Word32 := packWord op 0 rs1 0 0

/-- Format `DS`: `rd`, `rs1`. -/
def Format.wordDS (op : BitVec 8) (rd rs1 : RegIdx) : Word32 := packWord op rd rs1 0 0

/-- Format `DSS`: `rd`, `rs1`, `rs2`. -/
def Format.wordDSS (op : BitVec 8) (rd rs1 rs2 : RegIdx) : Word32 := packWord op rd rs1 rs2 0

/-- Format `DSI`: `rd`, `rs1`, `imm8`. -/
def Format.wordDSI (op : BitVec 8) (rd rs1 : RegIdx) (imm : Imm8) : Word32 := packWord op rd rs1 0 imm

/-- Format `DI`: `rd`, `imm8`. -/
def Format.wordDI (op : BitVec 8) (rd : RegIdx) (imm : Imm8) : Word32 := packWord op rd 0 0 imm

/-- Format `SS`: `rs1`, `rs2`. -/
def Format.wordSS (op : BitVec 8) (rs1 rs2 : RegIdx) : Word32 := packWord op 0 rs1 rs2 0

/-- The word of a command (R71, R75). -/
def encode : Instr → Word32
  | .sysNop => Format.wordN 0x00#8
  | .sysLd rd => Format.wordD 0x01#8 rd
  | .sysSt rs1 => Format.wordS 0x02#8 rs1
  | .sysMov rd rs1 => Format.wordDS 0x03#8 rd rs1
  | .gf8Add rd rs1 rs2 => Format.wordDSS 0x10#8 rd rs1 rs2
  | .gf8Xt rd rs1 => Format.wordDS 0x11#8 rd rs1
  | .gf8Mul rd rs1 rs2 => Format.wordDSS 0x12#8 rd rs1 rs2
  | .gf8Pow rd rs1 imm => Format.wordDSI 0x13#8 rd rs1 imm
  | .gf8Inv rd rs1 => Format.wordDS 0x14#8 rd rs1
  | .gf8Sbox rd rs1 => Format.wordDS 0x15#8 rd rs1
  | .gf8Isbox rd rs1 => Format.wordDS 0x16#8 rd rs1
  | .gfvAdd rd rs1 rs2 => Format.wordDSS 0x20#8 rd rs1 rs2
  | .gfvRotl rd rs1 imm => Format.wordDSI 0x21#8 rd rs1 imm
  | .gfvDot rd rs1 rs2 => Format.wordDSS 0x22#8 rd rs1 rs2
  | .gfvSubw rd rs1 => Format.wordDS 0x23#8 rd rs1
  | .gfvRcon rd rs1 imm => Format.wordDSI 0x24#8 rd rs1 imm
  | .gfmMulv rd rs1 rs2 => Format.wordDSS 0x25#8 rd rs1 rs2
  | .gfqAdd rd rs1 rs2 => Format.wordDSS 0x30#8 rd rs1 rs2
  | .gfqXt rd rs1 => Format.wordDS 0x31#8 rd rs1
  | .gfqMul rd rs1 rs2 => Format.wordDSS 0x32#8 rd rs1 rs2
  | .gfqDot rd rs1 rs2 => Format.wordDSS 0x33#8 rd rs1 rs2
  | .aesKexp rs1 rs2 => Format.wordSS 0x40#8 rs1 rs2
  | .aesRkrd rd imm => Format.wordDI 0x41#8 rd imm
  | .aesSub rd rs1 => Format.wordDS 0x50#8 rd rs1
  | .aesShr rd rs1 => Format.wordDS 0x51#8 rd rs1
  | .aesMix rd rs1 => Format.wordDS 0x52#8 rd rs1
  | .aesArk rd rs1 imm => Format.wordDSI 0x53#8 rd rs1 imm
  | .aesEncr rd rs1 imm => Format.wordDSI 0x54#8 rd rs1 imm
  | .aesEncl rd rs1 => Format.wordDS 0x55#8 rd rs1
  | .aesEnc rd rs1 => Format.wordDS 0x56#8 rd rs1
  | .aesIsub rd rs1 => Format.wordDS 0x60#8 rd rs1
  | .aesIshr rd rs1 => Format.wordDS 0x61#8 rd rs1
  | .aesImix rd rs1 => Format.wordDS 0x62#8 rd rs1
  | .aesDecr rd rs1 imm => Format.wordDSI 0x63#8 rd rs1 imm
  | .aesDecf rd rs1 => Format.wordDS 0x64#8 rd rs1
  | .aesDec rd rs1 => Format.wordDS 0x65#8 rd rs1
  | .ctrInc rd rs1 => Format.wordDS 0x70#8 rd rs1
  | .pvStep rd rs1 rs2 => Format.wordDSS 0x71#8 rd rs1 rs2
  | .sivClr7 rd rs1 => Format.wordDS 0x72#8 rd rs1
  | .sivSet7 rd rs1 => Format.wordDS 0x73#8 rd rs1
  | .sivCmp rd rs1 rs2 => Format.wordDSS 0x74#8 rd rs1 rs2

/-- The mnemonic of a command, as R75 spells it. -/
def Instr.mnemonic : Instr → String
  | .sysNop => "SYS.NOP"
  | .sysLd _ => "SYS.LD"
  | .sysSt _ => "SYS.ST"
  | .sysMov _ _ => "SYS.MOV"
  | .gf8Add _ _ _ => "GF8.ADD"
  | .gf8Xt _ _ => "GF8.XT"
  | .gf8Mul _ _ _ => "GF8.MUL"
  | .gf8Pow _ _ _ => "GF8.POW"
  | .gf8Inv _ _ => "GF8.INV"
  | .gf8Sbox _ _ => "GF8.SBOX"
  | .gf8Isbox _ _ => "GF8.ISBOX"
  | .gfvAdd _ _ _ => "GFV.ADD"
  | .gfvRotl _ _ _ => "GFV.ROTL"
  | .gfvDot _ _ _ => "GFV.DOT"
  | .gfvSubw _ _ => "GFV.SUBW"
  | .gfvRcon _ _ _ => "GFV.RCON"
  | .gfmMulv _ _ _ => "GFM.MULV"
  | .gfqAdd _ _ _ => "GFQ.ADD"
  | .gfqXt _ _ => "GFQ.XT"
  | .gfqMul _ _ _ => "GFQ.MUL"
  | .gfqDot _ _ _ => "GFQ.DOT"
  | .aesKexp _ _ => "AES.KEXP"
  | .aesRkrd _ _ => "AES.RKRD"
  | .aesSub _ _ => "AES.SUB"
  | .aesShr _ _ => "AES.SHR"
  | .aesMix _ _ => "AES.MIX"
  | .aesArk _ _ _ => "AES.ARK"
  | .aesEncr _ _ _ => "AES.ENCR"
  | .aesEncl _ _ => "AES.ENCL"
  | .aesEnc _ _ => "AES.ENC"
  | .aesIsub _ _ => "AES.ISUB"
  | .aesIshr _ _ => "AES.ISHR"
  | .aesImix _ _ => "AES.IMIX"
  | .aesDecr _ _ _ => "AES.DECR"
  | .aesDecf _ _ => "AES.DECF"
  | .aesDec _ _ => "AES.DEC"
  | .ctrInc _ _ => "CTR.INC"
  | .pvStep _ _ _ => "PV.STEP"
  | .sivClr7 _ _ => "SIV.CLR7"
  | .sivSet7 _ _ => "SIV.SET7"
  | .sivCmp _ _ _ => "SIV.CMP"

/-! ## Pseudo-commands (R81): exact aliases of one command -/

/-- `GFV.ROTW rd, rs1` is `GFV.ROTL rd, rs1, 1`. -/
def Instr.gfvRotw (rd rs1 : RegIdx) : Instr := .gfvRotl rd rs1 1

/-- `AES.ARK0 rd, rs1` is `AES.ARK rd, rs1, 0`. -/
def Instr.aesArk0 (rd rs1 : RegIdx) : Instr := .aesArk rd rs1 0

end Sys2Proof
end

