-- ==== Sys2Proof/Machine/State.lean ====
section
/-! DEFINITION. The state of the kreep CORE as plain data (10_state.md), the host's moves, and the state after reset. -/

namespace Sys2Proof.Machine

/-- What the host may do at a step boundary (20_memory.md R68): present any 32-bit word as a command with any `DIN`,
or assert reset. -/
inductive HostMove where
  | command (word : Word32) (din : Block)
  | reset
deriving DecidableEq, Repr

/-- The six elements of the CORE's state (10_state.md section 1, R38), and after them the two fields of the model's
own that hold the parameters of a step (log entries 1 and 2). -/
structure State where
  /-- `V[0..7]`, the general registers (R20). -/
  v : Vector Block Config.nReg
  /-- `RK[0..59]`, the key schedule (R30). -/
  rk : Vector Word32 Config.nRk
  /-- `KV`, key valid (R32). -/
  kv : Bool
  /-- `FAULT`, sticky until reset (R33). -/
  fault : Bool
  /-- `CAUSE`, the code of the first fault (R33, 60_exceptions.md R401). -/
  cause : BitVec 4
  /-- `DOUT`, the data output register (R37). -/
  dout : Block
  /-- MODEL's own: the `DIN` that accompanies the current command (20_memory.md R67). -/
  din : Block
  /-- MODEL's own: the host's moves still to come, the next one first (00_scope.md R16). -/
  inbox : List HostMove
deriving DecidableEq, Repr

/-- Reasons for the machine to stop. There are none: the spec lets nothing stop the CORE (every fault of
60_exceptions.md is a next state with `FAULT = 1`, log entry 5), so no instruction raises one and this is safe. -/
inductive Fault where
deriving DecidableEq, Repr

/-- Reasons to have no meaning for a command. -/
inductive Refusal where
  /-- Raised by an arm of `exec` whose instruction has no meaning yet; no arm does. Safe: the run stops. -/
  | notModelled (mnemonic : String)
deriving DecidableEq, Repr

/-- What executing a command answers. -/
abbrev Result := Host.Outcome State Fault Refusal

/-- The state right after reset: every element zero (10_state.md R47, 70_reset_and_hazards.md R442). `din` and
`inbox` are no state of the CORE: 0 and empty are the model's choice (log entries 1 and 2). -/
def State.reset : State where
  v := Vector.replicate Config.nReg 0
  rk := Vector.replicate Config.nRk 0
  kv := false
  fault := false
  cause := 0
  dout := 0
  din := 0
  inbox := []

end Sys2Proof.Machine
end

