-- ==== Sys2Proof/Machine/Ops.lean ====
section
/-! DEFINITION. The named operations on the state: reading and writing registers, the key schedule, the host port,
raising a fault, and reset. -/

namespace Sys2Proof.Machine

/-! ## Registers (10_state.md R20: no register is special) -/

/-- `V[r]`. -/
def State.reg (s : State) (r : RegIdx) : Block := s.v[r]

/-- `V[r] <- x`. -/
def State.setReg (s : State) (r : RegIdx) (x : Block) : State := { s with v := s.v.set r x }

/-- `DOUT <- x`, done by `SYS.ST` only (R37). -/
def State.setDout (s : State) (x : Block) : State := { s with dout := x }

/-! ## Key schedule (10_state.md R30 to R32) -/

/-- `RK[0..59] <- w` and `KV <- 1`, in one step (44_aes_key.md R190). -/
def State.loadSchedule (s : State) (w : Vector Word32 Config.nRk) : State := { s with rk := w, kv := true }

/-! ## Taking a fault, and reset, the only way back (60_exceptions.md R402, R412, R414) -/

/-- The 4-bit code of a cause (60_exceptions.md R401). -/
def causeCode : FaultCause → BitVec 4
  | .illegalOpcode => 1
  | .reservedField => 2
  | .immRange => 3
  | .keyNotValid => 4

/-- `FAULT <- 1`, `CAUSE <- c`, and no other change (R402). -/
def State.recordFault (s : State) (c : FaultCause) : State := { s with fault := true, cause := causeCode c }

/-- `raise Fault(c)`: the step ends in the state of `recordFault`. Nothing is saved and control goes nowhere (R412). -/
def raise (c : FaultCause) (s : State) : Result := .next (s.recordFault c)

/-- Reset: the six elements go to their reset values in one transition (70_reset_and_hazards.md R440). The host's
side (`din`, `inbox`) is not the CORE's and stays. It is also the only return from the faulted state (R414). -/
def State.resetCore (s : State) : State :=
  { s with
    v := State.reset.v, rk := State.reset.rk, kv := State.reset.kv, fault := State.reset.fault,
    cause := State.reset.cause, dout := State.reset.dout }

/-! ## The guards a command's rule opens with (30_encoding.md R77 steps 3 and 4) -/

/-- `if not legal: raise Fault(IMM_RANGE)`, else go on. -/
def guardImm (legal : Bool) (s : State) (k : Result) : Result := if legal then k else raise .immRange s

/-- `if KV == 0: raise Fault(KEY_NOT_VALID)`, else go on (60_exceptions.md R406). -/
def guardKey (s : State) (k : Result) : Result := if s.kv then k else raise .keyNotValid s

/-! ## The host port (20_memory.md R67, R68) -/

/-- The host's next moves, put in front of those still to come. -/
def State.present (s : State) (moves : List HostMove) : State := { s with inbox := moves ++ s.inbox }

/-- The current step takes its move from the port: the moves left are `rest`. -/
def State.takeMove (s : State) (rest : List HostMove) : State := { s with inbox := rest }

/-- The `DIN` value of the current step. -/
def State.setDin (s : State) (d : Block) : State := { s with din := d }

end Sys2Proof.Machine
end

