-- ==== Sys2Proof/Machine/Operands.lean ====
section
/-! DEFINITION. The typed views of a 128-bit value (00_scope.md R10, R11, R14), the operand forms that use them
(10_state.md R21, R22), and the legal ranges of `imm8` (30_encoding.md R73). -/

namespace Sys2Proof.Machine

/-! ## Views (00_scope.md R11, R14) -/

/-- `byte(v, k) = v[8k+7 : 8k]`. -/
def byte (v : Block) (k : Nat) : Byte := v.extractLsb' (8 * k) 8

/-- `b0(v) = v[7:0]`. -/
def b0 (v : Block) : Byte := v.extractLsb' 0 8

/-- `w0(v) = v[31:0]`. -/
def w0 (v : Block) : Word32 := v.extractLsb' 0 32

/-- `row(v, i) = v[32i+31 : 32i]`. -/
def row (v : Block) (i : Nat) : Word32 := v.extractLsb' (32 * i) 32

/-- `elem(w, j) = w[8j+7 : 8j]`. -/
def elem (w : Word32) (j : Nat) : Byte := w.extractLsb' (8 * j) 8

/-- State element `(i, j)`: `st(v, i, j) = byte(v, 4i+j)`. -/
def st (v : Block) (i j : Nat) : Byte := byte v (4 * i + j)

/-- `vec(e0,e1,e2,e3) = e0 | e1<<8 | e2<<16 | e3<<24`. -/
def vec (e0 e1 e2 e3 : Byte) : Word32 :=
  e0.setWidth 32 ||| e1.setWidth 32 <<< 8 ||| e2.setWidth 32 <<< 16 ||| e3.setWidth 32 <<< 24

/-- `mat(r0,r1,r2,r3) = r0 | r1<<32 | r2<<64 | r3<<96`. -/
def mat (r0 r1 r2 r3 : Word32) : Block :=
  r0.setWidth 128 ||| r1.setWidth 128 <<< 32 ||| r2.setWidth 128 <<< 64 ||| r3.setWidth 128 <<< 96

/-- The state whose element `(i, j)` is `f i j` (R14, R19: KREEP's rows). -/
def matOf (f : Nat → Nat → Byte) : Block :=
  mat (vec (f 0 0) (f 0 1) (f 0 2) (f 0 3)) (vec (f 1 0) (f 1 1) (f 1 2) (f 1 3))
    (vec (f 2 0) (f 2 1) (f 2 2) (f 2 3)) (vec (f 3 0) (f 3 1) (f 3 2) (f 3 3))

/-- A function applied to each of the four rows. -/
def mapRows (f : Word32 → Word32) (v : Block) : Block := mat (f (row v 0)) (f (row v 1)) (f (row v 2)) (f (row v 3))

/-! ## Source operands (10_state.md R21) -/

/-- A GF(2^8) scalar source: `b0(V[r])`, bits 127:8 ignored. -/
def readByte (r : RegIdx) (s : State) : Byte := b0 (s.reg r)

/-- A GF(2^8) vector source: `w0(V[r])`, bits 127:32 ignored. -/
def readWord (r : RegIdx) (s : State) : Word32 := w0 (s.reg r)

/-- A full source: all 128 bits of `V[r]`. -/
def readBlock (r : RegIdx) (s : State) : Block := s.reg r

/-! ## Destinations (10_state.md R22: narrow results are zero-extended) -/

/-- `V[rd] <- x`. -/
def writeBlock (rd : RegIdx) (x : Block) (s : State) : Result := .next (s.setReg rd x)

/-- `V[rd] <- zext_128(e)`. -/
def writeByte (rd : RegIdx) (e : Byte) (s : State) : Result := writeBlock rd (e.setWidth 128) s

/-- `V[rd] <- zext_128(w)`. -/
def writeWord (rd : RegIdx) (w : Word32) (s : State) : Result := writeBlock rd (w.setWidth 128) s

/-! ## Immediates (30_encoding.md R73, 60_exceptions.md R405) -/

/-- The round-constant index of `GFV.RCON`: `1..10`. -/
def rconIndexLegal (j : Imm8) : Bool := decide (1 ≤ j.toNat ∧ j.toNat ≤ 10)

/-- The round index of `AES.RKRD` and `AES.ARK`: `0..14`. -/
def keyIndexLegal (r : Imm8) : Bool := decide (r.toNat ≤ 14)

/-- The round index of `AES.ENCR` and `AES.DECR`: `1..13`. -/
def fullRoundLegal (r : Imm8) : Bool := decide (1 ≤ r.toNat ∧ r.toNat ≤ 13)

end Sys2Proof.Machine
end

