-- ==== Sys2Proof/Machine/Tables.lean ====
section
/-! DEFINITION. The constant tables: read-only, not state (10_state.md R40 to R45; 41_gf256.md R105, R106). -/

namespace Sys2Proof.Machine

/-! ## The substitution boxes -/

/-- The rows of the forward box, row = high nibble. Each literal lists the 16 entries of one row of R105's table from
column 0 on, so it reads as the table does. -/
def sboxRow : Nat → BitVec 128
  | 0 => 0x637c777bf26b6fc53001672bfed7ab76#128
  | 1 => 0xca82c97dfa5947f0add4a2af9ca472c0#128
  | 2 => 0xb7fd9326363ff7cc34a5e5f171d83115#128
  | 3 => 0x04c723c31896059a071280e2eb27b275#128
  | 4 => 0x09832c1a1b6e5aa0523bd6b329e32f84#128
  | 5 => 0x53d100ed20fcb15b6acbbe394a4c58cf#128
  | 6 => 0xd0efaafb434d338545f9027f503c9fa8#128
  | 7 => 0x51a3408f929d38f5bcb6da2110fff3d2#128
  | 8 => 0xcd0c13ec5f974417c4a77e3d645d1973#128
  | 9 => 0x60814fdc222a908846eeb814de5e0bdb#128
  | 10 => 0xe0323a0a4906245cc2d3ac629195e479#128
  | 11 => 0xe7c8376d8dd54ea96c56f4ea657aae08#128
  | 12 => 0xba78252e1ca6b4c6e8dd741f4bbd8b8a#128
  | 13 => 0x703eb5664803f60e613557b986c11d9e#128
  | 14 => 0xe1f8981169d98e949b1e87e9ce5528df#128
  | 15 => 0x8ca1890dbfe6426841992d0fb054bb16#128
  | _ => 0

/-- The rows of the inverse box of R106, laid out as `sboxRow`. -/
def isboxRow : Nat → BitVec 128
  | 0 => 0x52096ad53036a538bf40a39e81f3d7fb#128
  | 1 => 0x7ce339829b2fff87348e4344c4dee9cb#128
  | 2 => 0x547b9432a6c2233dee4c950b42fac34e#128
  | 3 => 0x082ea16628d924b2765ba2496d8bd125#128
  | 4 => 0x72f8f66486689816d4a45ccc5d65b692#128
  | 5 => 0x6c704850fdedb9da5e154657a78d9d84#128
  | 6 => 0x90d8ab008cbcd30af7e45805b8b34506#128
  | 7 => 0xd02c1e8fca3f0f02c1afbd0301138a6b#128
  | 8 => 0x3a9111414f67dcea97f2cfcef0b4e673#128
  | 9 => 0x96ac7422e7ad3585e2f937e81c75df6e#128
  | 10 => 0x47f11a711d29c5896fb7620eaa18be1b#128
  | 11 => 0xfc563e4bc6d279209adbc0fe78cd5af4#128
  | 12 => 0x1fdda8338807c731b11210592780ec5f#128
  | 13 => 0x60517fa919b54a0d2de57a9f93c99cef#128
  | 14 => 0xa0e03b4dae2af5b0c8ebbb3c83539961#128
  | 15 => 0x172b047eba77d626e169146355210c7d#128
  | _ => 0

/-- Column `c` of a row written with column 0 first. -/
def rowColumn (r : BitVec 128) (c : Nat) : Byte := r.extractLsb' (8 * (15 - c)) 8

/-- `SBOX[a]`: row `a[7:4]`, column `a[3:0]` (10_state.md R40, 41_gf256.md R105). -/
def sbox (a : Byte) : Byte := rowColumn (sboxRow (a.toNat / 16)) (a.toNat % 16)

/-- `ISBOX[a]` (41_gf256.md R106). -/
def isbox (a : Byte) : Byte := rowColumn (isboxRow (a.toNat / 16)) (a.toNat % 16)

/-! ## Matrices, round constants, field constants -/

/-- `MDS` (10_state.md R41). -/
def mds : Block := mat (vec 2 3 1 1) (vec 1 2 3 1) (vec 1 1 2 3) (vec 3 1 1 2)

/-- `IMDS`, its inverse over GF(2^8) (10_state.md R42). -/
def imds : Block := mat (vec 14 11 13 9) (vec 9 14 11 13) (vec 13 9 14 11) (vec 11 13 9 14)

/-- `RCON[1..10]`, in order (10_state.md R43). -/
def rconTable : List Byte := [0x01, 0x02, 0x04, 0x08, 0x10, 0x20, 0x40, 0x80, 0x1b, 0x36]

/-- `RCON[j]`. It exists for `j = 1..10` only (R43): `GFV.RCON` has faulted on any other `j` before it reads the
table, and key expansion uses `1..7`. -/
def rcon : Nat → Byte
  | 0 => 0
  | j + 1 => rconTable.getD j 0

/-- `R128`, the reduction constant of `qxtimes` (10_state.md R44, 90_conflicts.md C1). -/
def r128 : Block := 0xC2000000000000000000000000000001#128

/-- `C128`, the second factor of `qdot` (10_state.md R45). -/
def c128 : Block := 0x92040000000000000000000000000001#128

end Sys2Proof.Machine
end

