-- ==== Sys2Proof/Machine/Gf256.lean ====
section
/-! DEFINITION. GF(2^8) scalar arithmetic: the functions of 41_gf256.md section 1 and the commands of section 2. -/

namespace Sys2Proof.Machine

/-! ## Functions on bytes -/

/-- `add(a, b) = a ^ b` (R100). -/
def gadd (a b : Byte) : Byte := a ^^^ b

/-- `xtimes(a) = ((a & 0x7f) << 1) ^ (0x1b if a[7] == 1 else 0x00)` (R101, 90_conflicts.md C6). -/
def xtimes (a : Byte) : Byte := ((a &&& 0x7f#8) <<< 1) ^^^ (if a.getLsbD 7 then 0x1b#8 else 0x00#8)

/-- The loop of R102 from bit `k` of `b` on, `n` bits to go, with its variables `res` and `t`. -/
def multiplyLoop (b : Byte) : (n k : Nat) → (res t : Byte) → Byte
  | 0, _, res, _ => res
  | n + 1, k, res, t => multiplyLoop b n (k + 1) (if b.getLsbD k then res ^^^ t else res) (xtimes t)

/-- `multiply(a, b)`: eight bits of `b`, low to high (R102). -/
def multiply (a b : Byte) : Byte := multiplyLoop b 8 0 0 a

/-- `power(a, n)`: from `0x01`, `n` times multiplied by `a` (R103; `power(a, 0) = 0x01`, 92_eei_decisions.md D19). -/
def power (a : Byte) : Nat → Byte
  | 0 => 1
  | n + 1 => multiply (power a n) a

/-- `inverse(a) = power(a, 254)`, which is 0 for 0 (R104). -/
def inverse (a : Byte) : Byte := power a 254

/-! ## Commands -/

/-- `GF8.ADD` (R110). -/
def execGf8Add (rd rs1 rs2 : RegIdx) (s : State) : Result := writeByte rd (gadd (readByte rs1 s) (readByte rs2 s)) s

/-- `GF8.XT` (R111). -/
def execGf8Xt (rd rs1 : RegIdx) (s : State) : Result := writeByte rd (xtimes (readByte rs1 s)) s

/-- `GF8.MUL` (R112). -/
def execGf8Mul (rd rs1 rs2 : RegIdx) (s : State) : Result := writeByte rd (multiply (readByte rs1 s) (readByte rs2 s)) s

/-- `GF8.POW`: every exponent `0..255` is legal (R113). -/
def execGf8Pow (rd rs1 : RegIdx) (n : Imm8) (s : State) : Result := writeByte rd (power (readByte rs1 s) n.toNat) s

/-- `GF8.INV`: 0 gives 0 and does not fault (R114). -/
def execGf8Inv (rd rs1 : RegIdx) (s : State) : Result := writeByte rd (inverse (readByte rs1 s)) s

/-- `GF8.SBOX` (R115). -/
def execGf8Sbox (rd rs1 : RegIdx) (s : State) : Result := writeByte rd (sbox (readByte rs1 s)) s

/-- `GF8.ISBOX` (R116). -/
def execGf8Isbox (rd rs1 : RegIdx) (s : State) : Result := writeByte rd (isbox (readByte rs1 s)) s

end Sys2Proof.Machine
end

