-- ==== Sys2Proof/Machine/Gf256Vec.lean ====
section
/-! DEFINITION. GF(2^8) vectors and the matrix-vector product: 42_gf256_vec.md. -/

namespace Sys2Proof.Machine

/-! ## Functions on vectors -/

/-- `vadd(u, w) = u ^ w` (R120). -/
def vadd (u w : Word32) : Word32 := u ^^^ w

/-- `vrotl(w, k)`: element `j` is `elem(w, (j + k) mod 4)` (R121). -/
def vrotl (w : Word32) (k : Nat) : Word32 :=
  vec (elem w ((0 + k) % 4)) (elem w ((1 + k) % 4)) (elem w ((2 + k) % 4)) (elem w ((3 + k) % 4))

/-- `vdot(u, w)`: the XOR of the four products (R122). -/
def vdot (u w : Word32) : Byte :=
  multiply (elem u 0) (elem w 0) ^^^ multiply (elem u 1) (elem w 1) ^^^ multiply (elem u 2) (elem w 2) ^^^
    multiply (elem u 3) (elem w 3)

/-- A function on each of the four elements. -/
def mapElems (f : Byte → Byte) (w : Word32) : Word32 := vec (f (elem w 0)) (f (elem w 1)) (f (elem w 2)) (f (elem w 3))

/-- `subword(w)`: the S-box on each element (R123). -/
def subword (w : Word32) : Word32 := mapElems sbox w

/-- `rconword(w, j) = w ^ zext_32(RCON[j])`, for `j = 1..10` (R124). -/
def rconword (w : Word32) (j : Nat) : Word32 := w ^^^ (rcon j).setWidth 32

/-- `mulv(m, w)`: element `i` is `vdot(row(m, i), w)` (R125). -/
def mulv (m : Block) (w : Word32) : Word32 := vec (vdot (row m 0) w) (vdot (row m 1) w) (vdot (row m 2) w) (vdot (row m 3) w)

/-! ## Commands -/

/-- `GFV.ADD` (R130). -/
def execGfvAdd (rd rs1 rs2 : RegIdx) (s : State) : Result := writeWord rd (vadd (readWord rs1 s) (readWord rs2 s)) s

/-- `GFV.ROTL`: every `k` is legal (R131). -/
def execGfvRotl (rd rs1 : RegIdx) (k : Imm8) (s : State) : Result := writeWord rd (vrotl (readWord rs1 s) k.toNat) s

/-- `GFV.DOT`: the result is one byte (R132). -/
def execGfvDot (rd rs1 rs2 : RegIdx) (s : State) : Result := writeByte rd (vdot (readWord rs1 s) (readWord rs2 s)) s

/-- `GFV.SUBW` (R133). -/
def execGfvSubw (rd rs1 : RegIdx) (s : State) : Result := writeWord rd (subword (readWord rs1 s)) s

/-- `GFV.RCON`: `IMM_RANGE` unless `j` is `1..10` (R134). -/
def execGfvRcon (rd rs1 : RegIdx) (j : Imm8) (s : State) : Result :=
  guardImm (rconIndexLegal j) s (writeWord rd (rconword (readWord rs1 s) j.toNat) s)

/-- `GFM.MULV`: all of `rs1` is the matrix, `w0` of `rs2` the vector (R135). -/
def execGfmMulv (rd rs1 rs2 : RegIdx) (s : State) : Result := writeWord rd (mulv (readBlock rs1 s) (readWord rs2 s)) s

end Sys2Proof.Machine
end

