-- ==== Sys2Proof/Machine/AesKey.lean ====
section
/-! DEFINITION. AES-256 key expansion: 44_aes_key.md. -/

namespace Sys2Proof.Machine

/-- `w[i]` for `i = 0..7`, the key cut in 4-byte slices (R180): `lo` holds key bytes 0..15, `hi` bytes 16..31 (R190). -/
def keyWord (lo hi : Block) (i : Nat) : Word32 := if i < 4 then row lo i else row hi (i - 4)

/-- `temp` of R181 for word `i`, from `w[i-1]` (R183: rotate, substitute, then add the round constant). -/
def scheduleTemp (i : Nat) (prev : Word32) : Word32 :=
  if i % 8 = 0 then rconword (subword (vrotl prev 1)) (i / 8)
  else if i % 8 = 4 then subword prev
  else prev

/-- `w[i] = vadd(w[i-8], temp)` (R181), with the words already computed listed newest first: `w[i-1]` is entry 0 and
`w[i-8]` entry 7. -/
def nextWord (i : Nat) (words : List Word32) : Word32 := vadd (words.getD 7 0) (scheduleTemp i (words.getD 0 0))

/-- `n` more words from index `i` on, newest first. -/
def expandWords : (n i : Nat) → List Word32 → List Word32
  | 0, _, words => words
  | n + 1, i, words => expandWords n (i + 1) (nextWord i words :: words)

/-- The first eight words, newest first. -/
def keyWords (lo hi : Block) : List Word32 := (List.range 8).reverse.map (keyWord lo hi)

/-- The whole schedule `w[0..59]` (R182): the eight key words and 52 more, in increasing `i`. -/
def keyExpand (lo hi : Block) : Vector Word32 Config.nRk :=
  Vector.ofFn fun n => (expandWords 52 8 (keyWords lo hi)).getD (59 - n.val) 0

/-- `RK[n]`; the command's guards keep `n` in `0..59`. -/
def rkWord (rk : Vector Word32 Config.nRk) (n : Nat) : Word32 := rk[n]?.getD 0

/-- Round key `r`: `rk128(r) = mat(RK[4r], RK[4r+1], RK[4r+2], RK[4r+3])` (10_state.md R30). -/
def rk128 (rk : Vector Word32 Config.nRk) (r : Nat) : Block :=
  mat (rkWord rk (4 * r)) (rkWord rk (4 * r + 1)) (rkWord rk (4 * r + 2)) (rkWord rk (4 * r + 3))

/-! ## Commands -/

/-- `AES.KEXP`: all 60 words and `KV <- 1` in one step; no key faults (R190). -/
def execAesKexp (rs1 rs2 : RegIdx) (s : State) : Result :=
  .next (s.loadSchedule (keyExpand (readBlock rs1 s) (readBlock rs2 s)))

/-- `AES.RKRD`: `IMM_RANGE` unless `r` is `0..14`, then `KEY_NOT_VALID` unless `KV = 1` (R191). -/
def execAesRkrd (rd : RegIdx) (r : Imm8) (s : State) : Result :=
  guardImm (keyIndexLegal r) s (guardKey s (writeBlock rd (rk128 s.rk r.toNat) s))

end Sys2Proof.Machine
end

