-- ==== Sys2Proof/Machine/AesEnc.lean ====
section
/-! DEFINITION. The AES encryption round and block encryption: 45_aes_enc.md. -/

namespace Sys2Proof.Machine

/-! ## Transforms -/

/-- `subbytes(s)`: the S-box on each of the 16 bytes, that is on each word of each row (R220). -/
def subbytes (x : Block) : Block := mapRows subword x

/-- `shiftrows(s)`: element `(i, j)` is `st(s, (i + j) mod 4, j)` (R221). -/
def shiftrows (x : Block) : Block := matOf fun i j => st x ((i + j) % 4) j

/-- `mixcolumns(s)`: `MDS` times each row (R222). -/
def mixcolumns (x : Block) : Block := mapRows (mulv mds) x

/-- `addroundkey(s, r) = s ^ rk128(r)` (R223). -/
def addroundkey (rk : Vector Word32 Config.nRk) (x : Block) (r : Nat) : Block := x ^^^ rk128 rk r

/-- `encround(s, r)` (R224). -/
def encround (rk : Vector Word32 Config.nRk) (x : Block) (r : Nat) : Block :=
  addroundkey rk (mixcolumns (shiftrows (subbytes x))) r

/-- `enclast(s)`: no MixColumns (R225). -/
def enclast (rk : Vector Word32 Config.nRk) (x : Block) : Block := addroundkey rk (shiftrows (subbytes x)) 14

/-- Rounds `r, r+1, ..`, `n` of them. -/
def encrounds (rk : Vector Word32 Config.nRk) : (n r : Nat) → Block → Block
  | 0, _, x => x
  | n + 1, r, x => encrounds rk n (r + 1) (encround rk x r)

/-- `encrypt(p)`: AddRoundKey 0, rounds 1..13, final round (R226). -/
def encrypt (rk : Vector Word32 Config.nRk) (p : Block) : Block := enclast rk (encrounds rk 13 1 (addroundkey rk p 0))

/-! ## Commands -/

/-- `AES.SUB` (R230). -/
def execAesSub (rd rs1 : RegIdx) (s : State) : Result := writeBlock rd (subbytes (readBlock rs1 s)) s

/-- `AES.SHR` (R231). -/
def execAesShr (rd rs1 : RegIdx) (s : State) : Result := writeBlock rd (shiftrows (readBlock rs1 s)) s

/-- `AES.MIX` (R232). -/
def execAesMix (rd rs1 : RegIdx) (s : State) : Result := writeBlock rd (mixcolumns (readBlock rs1 s)) s

/-- `AES.ARK`: round index `0..14`, then `KV = 1` (R233). -/
def execAesArk (rd rs1 : RegIdx) (r : Imm8) (s : State) : Result :=
  guardImm (keyIndexLegal r) s (guardKey s (writeBlock rd (addroundkey s.rk (readBlock rs1 s) r.toNat) s))

/-- `AES.ENCR`: round index `1..13`, then `KV = 1` (R234). -/
def execAesEncr (rd rs1 : RegIdx) (r : Imm8) (s : State) : Result :=
  guardImm (fullRoundLegal r) s (guardKey s (writeBlock rd (encround s.rk (readBlock rs1 s) r.toNat) s))

/-- `AES.ENCL` (R235). -/
def execAesEncl (rd rs1 : RegIdx) (s : State) : Result := guardKey s (writeBlock rd (enclast s.rk (readBlock rs1 s)) s)

/-- `AES.ENC` (R236). -/
def execAesEnc (rd rs1 : RegIdx) (s : State) : Result := guardKey s (writeBlock rd (encrypt s.rk (readBlock rs1 s)) s)

end Sys2Proof.Machine
end

