-- ==== Sys2Proof/Machine/AesDec.lean ====
section
/-! DEFINITION. The AES decryption round and block decryption, the direct inverse cipher: 46_aes_dec.md. -/

namespace Sys2Proof.Machine

/-! ## Transforms -/

/-- `invsubbytes(s)`: the inverse S-box on each byte (R260). -/
def invsubbytes (x : Block) : Block := mapRows (mapElems isbox) x

/-- `invshiftrows(s)`: element `(i, j)` is `st(s, (i - j) mod 4, j)`, the difference taken in `0..3` (R261). -/
def invshiftrows (x : Block) : Block := matOf fun i j => st x ((i + 4 - j) % 4) j

/-- `invmixcolumns(s)`: `IMDS` times each row (R262). -/
def invmixcolumns (x : Block) : Block := mapRows (mulv imds) x

/-- `decround(s, r)`: key first, then InvMixColumns, InvShiftRows, InvSubBytes (R263). -/
def decround (rk : Vector Word32 Config.nRk) (x : Block) (r : Nat) : Block :=
  invsubbytes (invshiftrows (invmixcolumns (addroundkey rk x r)))

/-- `decfirst(s)`: no InvMixColumns (R264). -/
def decfirst (rk : Vector Word32 Config.nRk) (x : Block) : Block := invsubbytes (invshiftrows (addroundkey rk x 14))

/-- Rounds `n, n-1, .., 1`. -/
def decrounds (rk : Vector Word32 Config.nRk) : (n : Nat) → Block → Block
  | 0, x => x
  | n + 1, x => decrounds rk n (decround rk x (n + 1))

/-- `decrypt(c)`: `decfirst`, rounds 13..1, AddRoundKey 0 (R265). -/
def decrypt (rk : Vector Word32 Config.nRk) (c : Block) : Block := addroundkey rk (decrounds rk 13 (decfirst rk c)) 0

/-! ## Commands -/

/-- `AES.ISUB` (R270). -/
def execAesIsub (rd rs1 : RegIdx) (s : State) : Result := writeBlock rd (invsubbytes (readBlock rs1 s)) s

/-- `AES.ISHR` (R271). -/
def execAesIshr (rd rs1 : RegIdx) (s : State) : Result := writeBlock rd (invshiftrows (readBlock rs1 s)) s

/-- `AES.IMIX` (R272). -/
def execAesImix (rd rs1 : RegIdx) (s : State) : Result := writeBlock rd (invmixcolumns (readBlock rs1 s)) s

/-- `AES.DECR`: round index `1..13`, then `KV = 1` (R273). -/
def execAesDecr (rd rs1 : RegIdx) (r : Imm8) (s : State) : Result :=
  guardImm (fullRoundLegal r) s (guardKey s (writeBlock rd (decround s.rk (readBlock rs1 s) r.toNat) s))

/-- `AES.DECF` (R274). -/
def execAesDecf (rd rs1 : RegIdx) (s : State) : Result := guardKey s (writeBlock rd (decfirst s.rk (readBlock rs1 s)) s)

/-- `AES.DEC` (R275). -/
def execAesDec (rd rs1 : RegIdx) (s : State) : Result := guardKey s (writeBlock rd (decrypt s.rk (readBlock rs1 s)) s)

end Sys2Proof.Machine
end

