-- ==== Sys2Proof/Machine/Gf128.lean ====
section
/-! DEFINITION. GF(2^128) arithmetic with the POLYVAL reduction: 43_gf128.md. -/

namespace Sys2Proof.Machine

/-! ## Functions on 128-bit elements -/

/-- `qadd(a, b) = a ^ b` (R160). -/
def qadd (a b : Block) : Block := a ^^^ b

/-- `qxtimes(a) = ((a & (2^127 - 1)) << 1) ^ (R128 if a[127] == 1 else 0)` (R161). -/
def qxtimes (a : Block) : Block :=
  ((a &&& 0x7FFFFFFFFFFFFFFFFFFFFFFFFFFFFFFF#128) <<< 1) ^^^ (if a.getLsbD 127 then r128 else 0#128)

/-- The loop of R162 from bit `k` of `b` on, `n` bits to go, with its variables `res` and `t`. -/
def qmultiplyLoop (b : Block) : (n k : Nat) → (res t : Block) → Block
  | 0, _, res, _ => res
  | n + 1, k, res, t => qmultiplyLoop b n (k + 1) (if b.getLsbD k then res ^^^ t else res) (qxtimes t)

/-- `qmultiply(a, b)`: 128 bits of `b`, low to high (R162). -/
def qmultiply (a b : Block) : Block := qmultiplyLoop b 128 0 0 a

/-- `qdot(a, b) = qmultiply(qmultiply(a, b), C128)` (R163). -/
def qdot (a b : Block) : Block := qmultiply (qmultiply a b) c128

/-! ## Commands -/

/-- `GFQ.ADD` (R170). -/
def execGfqAdd (rd rs1 rs2 : RegIdx) (s : State) : Result := writeBlock rd (qadd (readBlock rs1 s) (readBlock rs2 s)) s

/-- `GFQ.XT` (R171). -/
def execGfqXt (rd rs1 : RegIdx) (s : State) : Result := writeBlock rd (qxtimes (readBlock rs1 s)) s

/-- `GFQ.MUL` (R172). -/
def execGfqMul (rd rs1 rs2 : RegIdx) (s : State) : Result := writeBlock rd (qmultiply (readBlock rs1 s) (readBlock rs2 s)) s

/-- `GFQ.DOT` (R173). -/
def execGfqDot (rd rs1 rs2 : RegIdx) (s : State) : Result := writeBlock rd (qdot (readBlock rs1 s) (readBlock rs2 s)) s

end Sys2Proof.Machine
end

