-- ==== Sys2Proof/Machine/Siv.lean ====
section
/-! DEFINITION. The single steps of CTR mode, POLYVAL and GCM-SIV: 47_ctr_polyval_siv.md. -/

namespace Sys2Proof.Machine

/-! ## Functions -/

/-- `ctrinc(v)`: bits 31:0 plus one modulo `2^32`, bits 127:32 unchanged (R295). -/
def ctrinc (x : Block) : Block := (x &&& ~~~0xFFFFFFFF#128) ||| (w0 x + 1).setWidth 128

/-- `pvstep(s, b, h) = qdot(qadd(s, b), h)` (R296). -/
def pvstep (acc b h : Block) : Block := qdot (qadd acc b) h

/-- `clr7(v) = v & ~2^127` (R297). -/
def clr7 (x : Block) : Block := x &&& ~~~(1#128 <<< 127)

/-- `set7(v) = v | 2^127` (R297). -/
def set7 (x : Block) : Block := x ||| (1#128 <<< 127)

/-- `tagdiff(a, b)`: the mismatches of all 16 byte positions, OR-ed together, none skipped (R298). -/
def tagdiff (a b : Block) : Byte := (List.range 16).foldl (fun acc k => acc ||| (byte a k ^^^ byte b k)) 0

/-! ## Commands -/

/-- `CTR.INC`: the wrap is silent (R300). -/
def execCtrInc (rd rs1 : RegIdx) (s : State) : Result := writeBlock rd (ctrinc (readBlock rs1 s)) s

/-- `PV.STEP`: `rd` is the accumulator, read before it is written (R301). -/
def execPvStep (rd rs1 rs2 : RegIdx) (s : State) : Result :=
  writeBlock rd (pvstep (readBlock rd s) (readBlock rs1 s) (readBlock rs2 s)) s

/-- `SIV.CLR7` (R302). -/
def execSivClr7 (rd rs1 : RegIdx) (s : State) : Result := writeBlock rd (clr7 (readBlock rs1 s)) s

/-- `SIV.SET7` (R303). -/
def execSivSet7 (rd rs1 : RegIdx) (s : State) : Result := writeBlock rd (set7 (readBlock rs1 s)) s

/-- `SIV.CMP`: a mismatch is a register value, not a fault (R304). -/
def execSivCmp (rd rs1 rs2 : RegIdx) (s : State) : Result := writeByte rd (tagdiff (readBlock rs1 s) (readBlock rs2 s)) s

end Sys2Proof.Machine
end

