-- ==== Sys2Proof/Machine/System.lean ====
section
/-! DEFINITION. The system and data-movement commands: 48_system.md. -/

namespace Sys2Proof.Machine

/-- `SYS.NOP`: nothing is written (R330). -/
def execSysNop (s : State) : Result := .next s

/-- `SYS.LD`: `V[rd] <- DIN`, the only reader of `DIN` (R331). -/
def execSysLd (rd : RegIdx) (s : State) : Result := writeBlock rd s.din s

/-- `SYS.ST`: `DOUT <- V[rs1]`, the only writer of `DOUT` (R332). -/
def execSysSt (rs1 : RegIdx) (s : State) : Result := .next (s.setDout (readBlock rs1 s))

/-- `SYS.MOV`: all 128 bits (R333). -/
def execSysMov (rd rs1 : RegIdx) (s : State) : Result := writeBlock rd (readBlock rs1 s) s

end Sys2Proof.Machine
end

