-- ==== Sys2Proof/Machine/Dispatch.lean ====
section
/-! DEFINITION. The meaning of each command, one arm per constructor. -/

namespace Sys2Proof.Machine

/-- The command's own rule, applied while `FAULT = 0` (30_encoding.md R77 steps 3 to 5). -/
def exec (i : Instr) (s : State) : Host.Outcome State Fault Refusal :=
  match i with
  | .sysNop => Sys2Proof.Machine.execSysNop s
  | .sysLd rd => Sys2Proof.Machine.execSysLd rd s
  | .sysSt rs1 => Sys2Proof.Machine.execSysSt rs1 s
  | .sysMov rd rs1 => Sys2Proof.Machine.execSysMov rd rs1 s
  | .gf8Add rd rs1 rs2 => Sys2Proof.Machine.execGf8Add rd rs1 rs2 s
  | .gf8Xt rd rs1 => Sys2Proof.Machine.execGf8Xt rd rs1 s
  | .gf8Mul rd rs1 rs2 => Sys2Proof.Machine.execGf8Mul rd rs1 rs2 s
  | .gf8Pow rd rs1 imm => Sys2Proof.Machine.execGf8Pow rd rs1 imm s
  | .gf8Inv rd rs1 => Sys2Proof.Machine.execGf8Inv rd rs1 s
  | .gf8Sbox rd rs1 => Sys2Proof.Machine.execGf8Sbox rd rs1 s
  | .gf8Isbox rd rs1 => Sys2Proof.Machine.execGf8Isbox rd rs1 s
  | .gfvAdd rd rs1 rs2 => Sys2Proof.Machine.execGfvAdd rd rs1 rs2 s
  | .gfvRotl rd rs1 imm => Sys2Proof.Machine.execGfvRotl rd rs1 imm s
  | .gfvDot rd rs1 rs2 => Sys2Proof.Machine.execGfvDot rd rs1 rs2 s
  | .gfvSubw rd rs1 => Sys2Proof.Machine.execGfvSubw rd rs1 s
  | .gfvRcon rd rs1 imm => Sys2Proof.Machine.execGfvRcon rd rs1 imm s
  | .gfmMulv rd rs1 rs2 => Sys2Proof.Machine.execGfmMulv rd rs1 rs2 s
  | .gfqAdd rd rs1 rs2 => Sys2Proof.Machine.execGfqAdd rd rs1 rs2 s
  | .gfqXt rd rs1 => Sys2Proof.Machine.execGfqXt rd rs1 s
  | .gfqMul rd rs1 rs2 => Sys2Proof.Machine.execGfqMul rd rs1 rs2 s
  | .gfqDot rd rs1 rs2 => Sys2Proof.Machine.execGfqDot rd rs1 rs2 s
  | .aesKexp rs1 rs2 => Sys2Proof.Machine.execAesKexp rs1 rs2 s
  | .aesRkrd rd imm => Sys2Proof.Machine.execAesRkrd rd imm s
  | .aesSub rd rs1 => Sys2Proof.Machine.execAesSub rd rs1 s
  | .aesShr rd rs1 => Sys2Proof.Machine.execAesShr rd rs1 s
  | .aesMix rd rs1 => Sys2Proof.Machine.execAesMix rd rs1 s
  | .aesArk rd rs1 imm => Sys2Proof.Machine.execAesArk rd rs1 imm s
  | .aesEncr rd rs1 imm => Sys2Proof.Machine.execAesEncr rd rs1 imm s
  | .aesEncl rd rs1 => Sys2Proof.Machine.execAesEncl rd rs1 s
  | .aesEnc rd rs1 => Sys2Proof.Machine.execAesEnc rd rs1 s
  | .aesIsub rd rs1 => Sys2Proof.Machine.execAesIsub rd rs1 s
  | .aesIshr rd rs1 => Sys2Proof.Machine.execAesIshr rd rs1 s
  | .aesImix rd rs1 => Sys2Proof.Machine.execAesImix rd rs1 s
  | .aesDecr rd rs1 imm => Sys2Proof.Machine.execAesDecr rd rs1 imm s
  | .aesDecf rd rs1 => Sys2Proof.Machine.execAesDecf rd rs1 s
  | .aesDec rd rs1 => Sys2Proof.Machine.execAesDec rd rs1 s
  | .ctrInc rd rs1 => Sys2Proof.Machine.execCtrInc rd rs1 s
  | .pvStep rd rs1 rs2 => Sys2Proof.Machine.execPvStep rd rs1 rs2 s
  | .sivClr7 rd rs1 => Sys2Proof.Machine.execSivClr7 rd rs1 s
  | .sivSet7 rd rs1 => Sys2Proof.Machine.execSivSet7 rd rs1 s
  | .sivCmp rd rs1 rs2 => Sys2Proof.Machine.execSivCmp rd rs1 rs2 s

end Sys2Proof.Machine
end

