-- ==== Sys2Proof/Machine/Flags.lean ====
section
/-! DEFINITION. The status the host sees. There are no condition codes (10_state.md R35): the only flags are `KV`,
set by `State.loadSchedule`, and `FAULT` with `CAUSE`, set by `State.recordFault`. -/

namespace Sys2Proof.Machine

/-- `STATUS`: bit 0 `KV`, bit 1 `FAULT`, bits 3:2 zero, bits 7:4 `CAUSE` (10_state.md R34). -/
def State.status (s : State) : BitVec 8 :=
  (BitVec.ofBool s.kv).setWidth 8 ||| (BitVec.ofBool s.fault).setWidth 8 <<< 1 ||| s.cause.setWidth 8 <<< 4

/-- What the host can read after a step: `DOUT` and `STATUS` (20_memory.md R67). -/
def State.hostView (s : State) : Block × BitVec 8 := (s.dout, s.status)

end Sys2Proof.Machine
end

