-- ==== Sys2Proof/Machine/Port.lean ====
section
/-! DEFINITION. The host port: what one step does with the host's next move (20_memory.md R67, R68). -/

namespace Sys2Proof.Machine

/-- A command word at the port. While `FAULT = 1` it is refused and changes nothing (10_state.md R36,
60_exceptions.md R413); otherwise it is decoded, and either raises its decode fault or is executed (30_encoding.md
R77). -/
def issueWord (w : Word32) (s : State) : Result :=
  if s.fault then .next s
  else
    match decode w with
    | .error c => raise c s
    | .ok i => exec i s

/-- One move of the host. `DIN` accompanies a command and nothing else (20_memory.md R67); a reset is one atomic
transition (70_reset_and_hazards.md R440). -/
def takeHostMove (m : HostMove) (s : State) : Result :=
  match m with
  | .command w d => issueWord w (s.setDin d)
  | .reset => .next s.resetCore

/-- One step: the next move, or, when the host has none, nothing (60_exceptions.md R425; log entry 3). -/
def stepHost (s : State) : Result :=
  match s.inbox with
  | [] => .next s
  | m :: rest => takeHostMove m (s.takeMove rest)

/-- The word of a table row (its bits above `nbits` zero) as a command word. -/
def tableWord (nbits w : Nat) : Word32 := BitVec.ofNat 32 (w % 2 ^ nbits)

/-- The host presents `w` as its next move, with the `DIN` that stands at the port (log entry 7). -/
def presentWord (s : State) (nbits w : Nat) : State := s.present [.command (tableWord nbits w) s.din]

end Sys2Proof.Machine
end

