-- ==== Sys2Proof/Machine/Step.lean ====
section
/-! DEFINITION. The step function, and how a command comes to be the next one. -/

namespace Sys2Proof.Machine

/-- One step of the CORE (00_scope.md R15). -/
def step (s : State) : Host.Outcome State Fault Refusal := stepHost s

/-- `s` with the given command word presented as the host's next move. The CORE fetches nothing (20_memory.md R63):
the host alone decides the next command, so this is how an instruction comes to run (log entry 7). -/
def State.withFetchWord (s : State) (nbits w : Nat) : State := presentWord s nbits w

end Sys2Proof.Machine
end

