-- ==== Sys2Proof/Machine/Assembler.lean ====
section
/-! DEFINITION. The assembler text of a command: 30_encoding.md R80 and R81. Text is a list of characters. -/

namespace Sys2Proof.Machine

/-! ## Writing -/

/-- A decimal digit. -/
def digitChar (n : Nat) : Char := Char.ofNat (48 + n)

/-- A register as text: `V0` .. `V7`. -/
def regText (r : RegIdx) : List Char := ['V', digitChar r.val]

/-- An immediate as decimal text without leading zeros. -/
def immText (n : Imm8) : List Char :=
  let k := n.toNat
  if k < 10 then [digitChar k]
  else if k < 100 then [digitChar (k / 10), digitChar (k % 10)]
  else [digitChar (k / 100), digitChar (k / 10 % 10), digitChar (k % 10)]

/-- The operands of a word of the given format, in the order of R75's "operands" column. -/
def operandText (f : Format) (w : Word32) : List (List Char) :=
  match f with
  | .N => []
  | .D => [regText (rdField w)]
  | .S => [regText (rs1Field w)]
  | .DS => [regText (rdField w), regText (rs1Field w)]
  | .DSS => [regText (rdField w), regText (rs1Field w), regText (rs2Field w)]
  | .DSI => [regText (rdField w), regText (rs1Field w), immText (immField w)]
  | .DI => [regText (rdField w), immText (immField w)]
  | .SS => [regText (rs1Field w), regText (rs2Field w)]

/-- Operands separated by a comma and a space. -/
def joinOperands : List (List Char) → List Char
  | [] => []
  | [x] => x
  | x :: xs => x ++ [',', ' '] ++ joinOperands xs

/-- One command as a line of assembler text: `MNEMONIC operand, operand, ...` (R80). -/
def assembly (i : Instr) : List Char :=
  match rowOf (opField (encode i)) with
  | none => []
  | some row =>
    match operandText row.format (encode i) with
    | [] => row.mnemonic.toList
    | ops => row.mnemonic.toList ++ [' '] ++ joinOperands ops

/-! ## Reading -/

/-- The text up to a `;`, where a comment begins. -/
def beforeComment (line : List Char) : List Char := line.takeWhile (· != ';')

/-- Cut a line at spaces and commas into its words; spaces and commas only separate. -/
def words : List Char → (word : List Char) → List (List Char)
  | [], word => if word.isEmpty then [] else [word.reverse]
  | c :: cs, word =>
    if c == ' ' || c == ',' then (if word.isEmpty then words cs [] else word.reverse :: words cs [])
    else words cs (c :: word)

/-- `V0` .. `V7`. -/
def readReg : List Char → Option RegIdx
  | ['V', c] => if h : c.toNat - 48 < 8 ∧ 48 ≤ c.toNat then some ⟨c.toNat - 48, h.1⟩ else none
  | _ => none

/-- The value of a digit in the given base, decimal or hexadecimal of either case. -/
def readDigit (base : Nat) (c : Char) : Option Nat :=
  let n := c.toNat
  let v := if 48 ≤ n ∧ n ≤ 57 then n - 48 else if 97 ≤ n ∧ n ≤ 102 then n - 87 else if 65 ≤ n ∧ n ≤ 70 then n - 55 else base
  if v < base then some v else none

/-- A non-empty string of digits as a number, from `acc`. -/
def readDigits (base : Nat) : (acc : Nat) → List Char → Option Nat
  | acc, [] => some acc
  | acc, c :: cs => (readDigit base c).bind fun d => readDigits base (base * acc + d) cs

/-- An immediate, decimal (`14`) or hexadecimal (`0x0e`), at most 255. -/
def readImm (t : List Char) : Option Imm8 :=
  let n := match t with
    | '0' :: 'x' :: c :: cs => readDigits 16 0 (c :: cs)
    | c :: cs => readDigits 10 0 (c :: cs)
    | [] => none
  n.bind fun k => if k ≤ 255 then some (BitVec.ofNat 8 k) else none

/-- The command of a row from its operand words. -/
def buildFrom (row : OpRow) (ops : List (List Char)) : Option Instr :=
  match row.format, ops with
  | .N, [] => some (row.build 0 0 0 0)
  | .D, [a] => (readReg a).map fun rd => row.build rd 0 0 0
  | .S, [a] => (readReg a).map fun rs1 => row.build 0 rs1 0 0
  | .DS, [a, b] => (readReg a).bind fun rd => (readReg b).map fun rs1 => row.build rd rs1 0 0
  | .DSS, [a, b, c] =>
    (readReg a).bind fun rd => (readReg b).bind fun rs1 => (readReg c).map fun rs2 => row.build rd rs1 rs2 0
  | .DSI, [a, b, c] =>
    (readReg a).bind fun rd => (readReg b).bind fun rs1 => (readImm c).map fun n => row.build rd rs1 0 n
  | .DI, [a, c] => (readReg a).bind fun rd => (readImm c).map fun n => row.build rd 0 0 n
  | .SS, [a, b] => (readReg a).bind fun rs1 => (readReg b).map fun rs2 => row.build 0 rs1 rs2 0
  | _, _ => none

/-- The command of a line of assembler text, if it is one. The two pseudo-commands of R81 stand beside the 41
mnemonics. -/
def assemble (line : List Char) : Option Instr :=
  match words (beforeComment line) [] with
  | [] => none
  | m :: ops =>
    if m == "GFV.ROTW".toList then
      (match ops with | [a, b] => (readReg a).bind fun rd => (readReg b).map fun rs1 => Instr.gfvRotw rd rs1 | _ => none)
    else if m == "AES.ARK0".toList then
      (match ops with | [a, b] => (readReg a).bind fun rd => (readReg b).map fun rs1 => Instr.aesArk0 rd rs1 | _ => none)
    else (opcodeTable.find? fun row => row.mnemonic.toList == m).bind fun row => buildFrom row ops

end Sys2Proof.Machine
end

