-- ==== Sys2Proof/Machine/Composition.lean ====
section
/-! DEFINITION. CTR, POLYVAL and AES-256-GCM-SIV as functions on byte strings: 49_composition.md section 1. A byte
string `X[0..n-1]` is the list of its bytes, byte 0 first. -/

namespace Sys2Proof.Machine

/-! ## Byte strings and blocks (00_scope.md R11) -/

/-- `blk(X)`: byte `k` in bits `8k+7:8k`. A string shorter than 16 bytes is padded with zero bytes at the high end, as
the host does before `SYS.LD` (48_system.md R331, 49_composition.md R384). -/
def blk : List Byte → Block
  | [] => 0
  | b :: bs => (blk bs <<< 8) ||| b.setWidth 128

/-- The 16 bytes of a block, byte 0 first. -/
def bytesOf (x : Block) : List Byte := (List.range 16).map (byte x)

/-- The `k` low bytes of a number, little-endian. -/
def leBytes (k n : Nat) : List Byte := (List.range k).map fun j => BitVec.ofNat 8 (n / 256 ^ j)

/-- `le32(n)`. -/
def le32 (n : Nat) : List Byte := leBytes 4 n

/-- `le64(n)`. -/
def le64 (n : Nat) : List Byte := leBytes 8 n

/-- Bytewise XOR, as long as the shorter of the two. -/
def xorBytes (x y : List Byte) : List Byte := List.zipWith (· ^^^ ·) x y

/-- `n` consecutive 16-byte strides of a string; the last ones may be short or empty. -/
def strides : (n : Nat) → List Byte → List (List Byte)
  | 0, _ => []
  | n + 1, x => x.take 16 :: strides n (x.drop 16)

/-- `ceil(len(X) / 16)`. -/
def strideCount (x : List Byte) : Nat := (x.length + 15) / 16

/-- `keyexpand(K)` of a 32-byte key (44_aes_key.md R180 to R182). -/
def keyexpand (k : List Byte) : Vector Word32 Config.nRk := keyExpand (blk (k.take 16)) (blk ((k.drop 16).take 16))

/-! ## CTR (R351, R352) -/

/-- The strides of a message, each XORed with the keystream block of its counter; a short last stride uses the first
bytes of its keystream block only. -/
def ctrStrides (rk : Vector Word32 Config.nRk) : Block → List (List Byte) → List Byte
  | _, [] => []
  | cb, m :: ms => xorBytes m (bytesOf (encrypt rk cb)) ++ ctrStrides rk (ctrinc cb) ms

/-- `CTR(RKS, cb, M)` (R351). -/
def ctr (rk : Vector Word32 Config.nRk) (cb : Block) (m : List Byte) : List Byte :=
  ctrStrides rk cb (strides (strideCount m) m)

/-! ## POLYVAL (R354) -/

/-- The accumulator after a list of blocks, from `acc`. -/
def polyvalFrom (h acc : Block) (blocks : List (List Byte)) : Block :=
  blocks.foldl (fun a b => pvstep a (blk b) h) acc

/-- `POLYVAL(H, X)` for a string whose length is a multiple of 16 (R354). -/
def polyval (h : Block) (x : List Byte) : List Byte := bytesOf (polyvalFrom h 0 (strides (x.length / 16) x))

/-! ## AES-256-GCM-SIV (R355 to R361) -/

/-- `nonceblk(N) = blk(N || 00 00 00 00)` (R355). -/
def nonceblk (n : List Byte) : Block := blk (n ++ [0, 0, 0, 0])

/-- The first 8 bytes of `E_i`, the encryption of counter block `le32(i) || N` (R356). -/
def derivedPiece (rk : Vector Word32 Config.nRk) (n : List Byte) (i : Nat) : List Byte :=
  (bytesOf (encrypt rk (blk (le32 i ++ n)))).take 8

/-- `derive(K, N)`: the 16-byte authentication key and the 32-byte encryption key, from six counter blocks (R356,
90_conflicts.md C2). -/
def derive (k n : List Byte) : List Byte × List Byte :=
  let piece := derivedPiece (keyexpand k) n
  (piece 0 ++ piece 1, piece 2 ++ piece 3 ++ piece 4 ++ piece 5)

/-- `pad(X)`: the fewest zero bytes that make the length a multiple of 16, none for a multiple (R357). -/
def pad (x : List Byte) : List Byte := x ++ List.replicate ((16 - x.length % 16) % 16) 0

/-- `lenblock(A, P)`: the two bit lengths (R358). -/
def lenblock (a p : List Byte) : List Byte := le64 (8 * a.length) ++ le64 (8 * p.length)

/-- What POLYVAL hashes: associated data, plaintext, length block (R359). -/
def sivInput (a p : List Byte) : List Byte := pad a ++ pad p ++ lenblock a p

/-- `sivtag(H, RKE, N, A, P)` (R359), as a 128-bit value. -/
def sivtag (h : Block) (rke : Vector Word32 Config.nRk) (n a p : List Byte) : Block :=
  encrypt rke (clr7 (blk (polyval h (sivInput a p)) ^^^ nonceblk n))

/-- `siv_encrypt(K, N, P, A)`: ciphertext and then the 16-byte tag (R360). -/
def sivEncrypt (k n p a : List Byte) : List Byte :=
  let keys := derive k n
  let rke := keyexpand keys.2
  let tag := sivtag (blk keys.1) rke n a p
  ctr rke (set7 tag) p ++ bytesOf tag

/-- The outcome of a decryption: a sum type, as KREEP recommends (R362). -/
inductive Decrypted where
  | plaintext (p : List Byte)
  | failure
deriving DecidableEq, Repr

/-- `siv_decrypt(K, N, I, A)` (R361). An input shorter than a tag is a failure (92_eei_decisions.md D35). -/
def sivDecrypt (k n input a : List Byte) : Decrypted :=
  if input.length < Config.tagBytes then .failure
  else
    let keys := derive k n
    let rke := keyexpand keys.2
    let c := input.take (input.length - Config.tagBytes)
    let tag := blk (input.drop (input.length - Config.tagBytes))
    let p := ctr rke (set7 tag) c
    let expected := sivtag (blk keys.1) rke n a p
    if tagdiff tag expected = 0 then .plaintext p else .failure

end Sys2Proof.Machine
end

