-- ==== Sys2Proof/Machine/HostSequence.lean ====
section
/-! DEFINITION. The host's command sequences over the CORE: 49_composition.md section 2. Each is a function of the
CORE's state that presents one command at a time, waits for its step, and reads `DOUT` after a `SYS.ST`.
The listings have the host read no `STATUS`, so it reads none here: DESIGN CHOICE, log entry 16. -/

namespace Sys2Proof.Machine

/-- Go on from the outcome of a step, stopping where it stopped. -/
def andThen {α β : Type} (o : Host.Outcome α Fault Refusal) (k : α → Host.Outcome β Fault Refusal) :
    Host.Outcome β Fault Refusal :=
  match o with
  | .next a => k a
  | .fault r => .fault r
  | .refused r => .refused r

/-- Present one command with a `DIN` value and take the step. -/
def hostCommand (i : Instr) (d : Block) (s : State) : Result := step (s.present [.command (encode i) d])

/-- A command that ignores `DIN`: the value at the port is left as it stands (20_memory.md R67: it may be anything). -/
def hostDo (i : Instr) (s : State) : Result := hostCommand i s.din s

/-- `LD Vr <- X`: a string shorter than 16 bytes is zero-padded. -/
def hostLoad (r : RegIdx) (x : List Byte) (s : State) : Result := hostCommand (.sysLd r) (blk x) s

/-- `ST Vr -> X`: store, then read `DOUT` as 16 bytes. DESIGN CHOICE (log entry 16, unsafe): the host may read `STATUS`
after any step (20_memory.md R68), but no listing has it do so and it does not here, so with `FAULT = 1` the store is
refused (10_state.md R36) and the host takes the `DOUT` that stands. -/
def hostStore (r : RegIdx) (s : State) : Host.Outcome (List Byte × State) Fault Refusal :=
  andThen (hostDo (.sysSt r) s) fun t => .next (bytesOf t.dout, t)

/-! ## Key derivation (R381) and set-up (R382) -/

/-- `n` derivation blocks from the counter block in `V2`, the first 8 bytes of each kept. -/
def hostDeriveBlocks : Nat → State → Host.Outcome (List Byte × State) Fault Refusal
  | 0, s => .next ([], s)
  | n + 1, s =>
    andThen (hostDo (.aesEnc 3 2) s) fun s1 =>
    andThen (hostStore 3 s1) fun e =>
    andThen (hostDo (.ctrInc 2 2) e.2) fun s2 =>
    andThen (hostDeriveBlocks n s2) fun more =>
    .next (e.1.take 8 ++ more.1, more.2)

/-- R381: expand the master key, encrypt six counter blocks, assemble the two keys. -/
def hostDerive (k n : List Byte) (s : State) : Host.Outcome ((List Byte × List Byte) × State) Fault Refusal :=
  andThen (hostLoad 0 (k.take 16) s) fun s1 =>
  andThen (hostLoad 1 ((k.drop 16).take 16) s1) fun s2 =>
  andThen (hostDo (.aesKexp 0 1) s2) fun s3 =>
  andThen (hostLoad 2 (le32 0 ++ n) s3) fun s4 =>
  andThen (hostDeriveBlocks 6 s4) fun e =>
  .next ((e.1.take 16, e.1.drop 16), e.2)

/-- R382: the hash key in `V4` and the schedule of the encryption key in `RK`. -/
def hostSetup (authKey encKey : List Byte) (s : State) : Result :=
  andThen (hostLoad 4 authKey s) fun s1 =>
  andThen (hostLoad 0 (encKey.take 16) s1) fun s2 =>
  andThen (hostLoad 1 ((encKey.drop 16).take 16) s2) fun s3 =>
  hostDo (.aesKexp 0 1) s3

/-! ## Tag (R383) -/

/-- The POLYVAL loop: each block is loaded into `V6` and absorbed into `V5` under the key in `V4`. -/
def hostAbsorb : List (List Byte) → State → Result
  | [], s => .next s
  | b :: bs, s =>
    andThen (hostLoad 6 b s) fun s1 =>
    andThen (hostDo (.pvStep 5 6 4) s1) fun s2 =>
    hostAbsorb bs s2

/-- R383: the tag, left in `V3`. -/
def hostTag (n a p : List Byte) (s : State) : Result :=
  andThen (hostDo (.gfqAdd 5 5 5) s) fun s1 =>
  andThen (hostAbsorb (strides ((sivInput a p).length / 16) (sivInput a p)) s1) fun s2 =>
  andThen (hostLoad 6 (n ++ [0, 0, 0, 0]) s2) fun s3 =>
  andThen (hostDo (.gfqAdd 5 5 6) s3) fun s4 =>
  andThen (hostDo (.sivClr7 5 5) s4) fun s5 =>
  hostDo (.aesEnc 3 5) s5

/-! ## CTR (R384) -/

/-- The CTR loop over the strides of a message, counter block in `V2`; of each `DOUT` the host keeps the first
`len` bytes. -/
def hostCtrStrides : List (List Byte) → State → Host.Outcome (List Byte × State) Fault Refusal
  | [], s => .next ([], s)
  | m :: ms, s =>
    andThen (hostDo (.aesEnc 3 2) s) fun s1 =>
    andThen (hostLoad 6 m s1) fun s2 =>
    andThen (hostDo (.gfqAdd 6 6 3) s2) fun s3 =>
    andThen (hostStore 6 s3) fun e =>
    andThen (hostDo (.ctrInc 2 2) e.2) fun s4 =>
    andThen (hostCtrStrides ms s4) fun more =>
    .next (e.1.take m.length ++ more.1, more.2)

/-- R384. -/
def hostCtr (m : List Byte) (s : State) : Host.Outcome (List Byte × State) Fault Refusal :=
  hostCtrStrides (strides (strideCount m) m) s

/-! ## The two entry points (R385, R386) -/

/-- R385: `siv_encrypt` on the CORE. -/
def hostSivEncrypt (k n p a : List Byte) (s : State) : Host.Outcome (List Byte × State) Fault Refusal :=
  andThen (hostDerive k n s) fun d =>
  andThen (hostSetup d.1.1 d.1.2 d.2) fun s1 =>
  andThen (hostTag n a p s1) fun s2 =>
  andThen (hostDo (.sysMov 7 3) s2) fun s3 =>
  andThen (hostStore 7 s3) fun tag =>
  andThen (hostDo (.sivSet7 2 7) tag.2) fun s4 =>
  andThen (hostCtr p s4) fun c =>
  .next (c.1 ++ tag.1, c.2)

/-- R386 for an input of at least 16 bytes: the plaintext is returned only if all 16 bytes read from the compare are
zero, and discarded otherwise (R361, R362). From a faulted CORE those bytes are a stale `DOUT`: log entry 16. -/
def hostSivDecryptTagged (k n c tag a : List Byte) (s : State) : Host.Outcome (Decrypted × State) Fault Refusal :=
  andThen (hostDerive k n s) fun d =>
  andThen (hostSetup d.1.1 d.1.2 d.2) fun s1 =>
  andThen (hostLoad 7 tag s1) fun s2 =>
  andThen (hostDo (.sivSet7 2 7) s2) fun s3 =>
  andThen (hostCtr c s3) fun p =>
  andThen (hostTag n a p.1 p.2) fun s4 =>
  andThen (hostDo (.sivCmp 6 7 3) s4) fun s5 =>
  andThen (hostStore 6 s5) fun diff =>
  .next (if diff.1.all (· == 0) then .plaintext p.1 else .failure, diff.2)

/-- R386 with the split of the input; one too short for a tag is a failure and issues no command
(92_eei_decisions.md D35). -/
def hostSivDecrypt (k n input a : List Byte) (s : State) : Host.Outcome (Decrypted × State) Fault Refusal :=
  if input.length < Config.tagBytes then .next (.failure, s)
  else
    hostSivDecryptTagged k n (input.take (input.length - Config.tagBytes))
      (input.drop (input.length - Config.tagBytes)) a s

/-! ## What the host accepts (R353, 00_scope.md R9, 93_implementation_defined.md U7, U17) -/

/-- Lengths a host sequence may start with: a 32-byte key, a 12-byte nonce, and strings within `MAX_MSG_BYTES`. -/
def hostAccepts (k n msg a : List Byte) : Bool :=
  decide (k.length = Config.keyBytes) && decide (n.length = Config.nonceBytes) &&
    decide (msg.length ≤ Config.maxMsgBytes.val) && decide (a.length ≤ Config.maxMsgBytes.val)

/-- The host's `encrypt`: `none` is a precondition violation, on which the sequence does not start. -/
def hostEncrypt (k n p a : List Byte) (s : State) : Option (Host.Outcome (List Byte × State) Fault Refusal) :=
  if hostAccepts k n p a then some (hostSivEncrypt k n p a s) else none

/-- The host's `decrypt`; the message bound is on the ciphertext, the input less its tag. -/
def hostDecrypt (k n input a : List Byte) (s : State) : Option (Host.Outcome (Decrypted × State) Fault Refusal) :=
  if hostAccepts k n (input.take (input.length - Config.tagBytes)) a then some (hostSivDecrypt k n input a s) else none

end Sys2Proof.Machine
end

