-- ==== Sys2Proof/Safety.lean ====
section
/-! DEFINITION. The terms the statements use: what a command changes and leaves alone, what raising a fault does, the
invariant of the machine, and the spec's own tables written out for the statements about decoding. -/

namespace Sys2Proof.Machine

/-! ## Frames -/

/-- Everything but register `rd` is as before: the other registers, `RK`, `KV`, `FAULT`, `CAUSE`, `DOUT`, and the
host's side. -/
def SameExceptReg (rd : RegIdx) (s t : State) : Prop :=
  (∀ r, r ≠ rd → t.reg r = s.reg r) ∧ t.rk = s.rk ∧ t.kv = s.kv ∧ t.fault = s.fault ∧ t.cause = s.cause ∧
    t.dout = s.dout ∧ t.din = s.din ∧ t.inbox = s.inbox

/-- The six elements of the CORE's state are as before (10_state.md R38). -/
def SameCore (s t : State) : Prop :=
  (∀ r, t.reg r = s.reg r) ∧ t.rk = s.rk ∧ t.kv = s.kv ∧ t.fault = s.fault ∧ t.cause = s.cause ∧ t.dout = s.dout

/-- The host's side is as before. -/
def SameHost (s t : State) : Prop := t.din = s.din ∧ t.inbox = s.inbox

/-! ## What a command does -/

/-- The command completes: `V[rd]` becomes `x` and nothing else changes. -/
def Writes (i : Instr) (s : State) (rd : RegIdx) (x : Block) : Prop :=
  ∃ t, exec i s = .next t ∧ t.reg rd = x ∧ SameExceptReg rd s t

/-- The command faults with the 4-bit code `code`: `FAULT` and `CAUSE` are written and nothing else (60_exceptions.md
R402). -/
def Raises (i : Instr) (s : State) (code : BitVec 4) : Prop :=
  ∃ t, exec i s = .next t ∧ t.fault = true ∧ t.cause = code ∧ (∀ r, t.reg r = s.reg r) ∧ t.rk = s.rk ∧ t.kv = s.kv ∧
    t.dout = s.dout ∧ SameHost s t

/-- `word = op<<24 | rd<<21 | rs1<<18 | rs2<<15 | rsv<<8 | imm8` with `rsv = 0` (30_encoding.md R71). -/
def r71Word (op : Nat) (rd rs1 rs2 : RegIdx) (imm : Imm8) : Word32 :=
  BitVec.ofNat 32 op <<< 24 ||| BitVec.ofNat 32 rd.val <<< 21 ||| BitVec.ofNat 32 rs1.val <<< 18 |||
    BitVec.ofNat 32 rs2.val <<< 15 ||| imm.setWidth 32

/-- `word` is the command's word, it decodes to the command, and a word with the same `op` whose bits under `mask`
differ from the opcode alone has a reserved field set (30_encoding.md R72). -/
def Encodes (word mask : Word32) (i : Instr) : Prop :=
  encode i = word ∧ decode word = .ok i ∧
    ∀ w : Word32, w >>> 24 = word >>> 24 → w &&& mask ≠ (word >>> 24) <<< 24 → decode w = .error .reservedField

/-- The command has this encoding, and executed it writes `x` to `V[rd]` and nothing else. -/
def Does (word mask : Word32) (i : Instr) (s : State) (rd : RegIdx) (x : Block) : Prop :=
  Encodes word mask i ∧ Writes i s rd x

/-! ## The spec's tables, as the statements about decoding write them -/

/-- The 41 opcodes of 30_encoding.md R75, each with the mask of R72. -/
def specRows : List (Nat × Nat) :=
  [(0x00, 0xFFFFFFFF), (0x01, 0xFF1FFFFF), (0x02, 0xFFE3FFFF), (0x03, 0xFF03FFFF)] ++
  [(0x10, 0xFF007FFF), (0x11, 0xFF03FFFF), (0x12, 0xFF007FFF), (0x13, 0xFF03FF00), (0x14, 0xFF03FFFF),
    (0x15, 0xFF03FFFF), (0x16, 0xFF03FFFF)] ++
  [(0x20, 0xFF007FFF), (0x21, 0xFF03FF00), (0x22, 0xFF007FFF), (0x23, 0xFF03FFFF), (0x24, 0xFF03FF00),
    (0x25, 0xFF007FFF)] ++
  [(0x30, 0xFF007FFF), (0x31, 0xFF03FFFF), (0x32, 0xFF007FFF), (0x33, 0xFF007FFF)] ++
  [(0x40, 0xFFE07FFF), (0x41, 0xFF1FFF00)] ++
  [(0x50, 0xFF03FFFF), (0x51, 0xFF03FFFF), (0x52, 0xFF03FFFF), (0x53, 0xFF03FF00), (0x54, 0xFF03FF00),
    (0x55, 0xFF03FFFF), (0x56, 0xFF03FFFF)] ++
  [(0x60, 0xFF03FFFF), (0x61, 0xFF03FFFF), (0x62, 0xFF03FFFF), (0x63, 0xFF03FF00), (0x64, 0xFF03FFFF),
    (0x65, 0xFF03FFFF)] ++
  [(0x70, 0xFF03FFFF), (0x71, 0xFF007FFF), (0x72, 0xFF03FFFF), (0x73, 0xFF03FFFF), (0x74, 0xFF007FFF)]

/-- The legal range of `imm8` for an opcode whose range is not all of `0..255` (30_encoding.md R73). -/
def specImmRange (op : Nat) : Nat × Nat :=
  if op = 0x24 then (1, 10)
  else if op = 0x41 ∨ op = 0x53 then (0, 14)
  else if op = 0x54 ∨ op = 0x63 then (1, 13)
  else (0, 255)

/-- The opcodes of the eight readers of `RK` (60_exceptions.md R406). -/
def specKeyReaders : List Nat := [0x41, 0x53, 0x54, 0x55, 0x56, 0x63, 0x64, 0x65]

/-- The first check of 30_encoding.md R77 that a command word fails, in R77's order; none if it executes. -/
def specFault (w : Word32) (kv : Bool) : Option FaultCause :=
  let op := w.toNat / 2 ^ 24
  let imm := w.toNat % 2 ^ 8
  match specRows.find? (fun row => row.1 == op) with
  | none => some .illegalOpcode
  | some row =>
    if w &&& BitVec.ofNat 32 row.2 ≠ BitVec.ofNat 32 (op * 2 ^ 24) then some .reservedField
    else if imm < (specImmRange op).1 ∨ (specImmRange op).2 < imm then some .immRange
    else if op ∈ specKeyReaders ∧ kv = false then some .keyNotValid
    else none

/-! ## The field elements as polynomials (00_scope.md R18) -/

/-- The polynomial over GF(2) whose coefficient of `x^n` is bit `n`. -/
def Represents {n : Nat} (x : BitVec n) (p : Polynomial (ZMod 2)) : Prop :=
  p = ∑ i ∈ Finset.range n, if x.getLsbD i then Polynomial.X ^ i else 0

/-! ## The key schedule (44_aes_key.md R180, R181) -/

/-- `w` is the schedule of the key whose bytes 0..15 are `lo` and bytes 16..31 are `hi`: the key's words first, then
the recurrence, with `RCON[j] = x^(j-1)` (10_state.md R43). -/
def IsSchedule (lo hi : Block) (w : Nat → Word32) : Prop :=
  (∀ i < 4, w i = vec (byte lo (4 * i)) (byte lo (4 * i + 1)) (byte lo (4 * i + 2)) (byte lo (4 * i + 3))) ∧
  (∀ i < 4, w (4 + i) = vec (byte hi (4 * i)) (byte hi (4 * i + 1)) (byte hi (4 * i + 2)) (byte hi (4 * i + 3))) ∧
  ∀ i, 8 ≤ i → i < 60 →
    (i % 8 = 0 → w i = w (i - 8) ^^^ (subword (vrotl (w (i - 1)) 1) ^^^ (power 0x02#8 (i / 8 - 1)).setWidth 32)) ∧
    (i % 8 = 4 → w i = w (i - 8) ^^^ subword (w (i - 1))) ∧
    (i % 8 ≠ 0 → i % 8 ≠ 4 → w i = w (i - 8) ^^^ w (i - 1))

/-! ## Sequences of commands -/

/-- Commands presented one after the other, each run to the end of its step. -/
def hostDoAll : List Instr → State → Result
  | [], s => .next s
  | i :: is, s => andThen (hostDo i s) (hostDoAll is)

/-! ## The invariant -/

/-- What every state a run reaches has: `CAUSE` is 0 while `FAULT` is 0 (10_state.md R33) and a code of 1 to 4 after a
fault (60_exceptions.md R401); `KV` says whether `RK` holds a schedule made by `AES.KEXP` (10_state.md R32), which
otherwise is as reset left it; and a key-not-valid fault is only found with `KV = 0` (60_exceptions.md R406, R413). -/
def Invariant (s : State) : Prop :=
  (s.fault = false → s.cause = 0) ∧
  (s.fault = true → 1 ≤ s.cause.toNat ∧ s.cause.toNat ≤ 4) ∧
  (s.kv = true → ∃ lo hi, s.rk = keyExpand lo hi) ∧
  (s.kv = false → s.rk = Vector.replicate Config.nRk 0) ∧
  (s.cause = 4 → s.kv = false)

/-- A run of `n` steps ends in `t`. -/
def RunsTo (n : Nat) (s t : State) : Prop := Host.Core.run Sys2Proof.core n s = .next t

/-- A run of `n` steps that ends without a fault raised: what a host that used the CORE rightly sees. -/
def SafeRun (n : Nat) (s t : State) : Prop := RunsTo n s t ∧ t.fault = false

end Sys2Proof.Machine
end

