-- ==== Sys2Proof/Certificates/Slice0/Obligations.lean ====
section
/-! DEFINITION. The statements for the provers, in the order of OBLIGATIONS.json. A command's statement is about every
state with `FAULT = 0`, which is when the spec executes commands (30_encoding.md R77); `Does` says the command's word,
its reserved fields, its result and its frame. The fields `inbox` and `din` are how the model holds the host's side of a
step, the command word and the `DIN` beside it (log entries 1 and 2). -/

open Sys2Proof Sys2Proof.Machine

/-! ## Encoding -/

/-- 30_encoding.md R82: the six worked encodings. -/
def Obligations.WorkedEncodings : Prop :=
  (encode (.gf8Mul 2 0 1) = 0x12408000#32 ∧ decode 0x12408000#32 = .ok (.gf8Mul 2 0 1)) ∧
  (encode (.aesEncr 1 1 13) = 0x5424000D#32 ∧ decode 0x5424000D#32 = .ok (.aesEncr 1 1 13)) ∧
  (encode (.aesKexp 0 1) = 0x40008000#32 ∧ decode 0x40008000#32 = .ok (.aesKexp 0 1)) ∧
  (encode (.sysLd 7) = 0x01E00000#32 ∧ decode 0x01E00000#32 = .ok (.sysLd 7)) ∧
  (encode (.sysSt 7) = 0x021C0000#32 ∧ decode 0x021C0000#32 = .ok (.sysSt 7)) ∧
  (encode (.pvStep 3 4 5) = 0x71728000#32 ∧ decode 0x71728000#32 = .ok (.pvStep 3 4 5))

/-- Decoding the word of any command, every operand at every value, gives that command. -/
def Obligations.DecodeOfEncode : Prop := ∀ i : Instr, decode (encode i) = .ok i

/-- A word that decodes to a command is that command's word: no two words encode one command, and no bit of a word is
dropped. -/
def Obligations.EncodeOfDecode : Prop := ∀ (w : Word32) (i : Instr), decode w = .ok i → encode i = w

/-- 30_encoding.md R78: the illegal opcodes, and no other. -/
def Obligations.IllegalOpcodes : Prop :=
  ∀ w : Word32,
    decode w = .error .illegalOpcode ↔
      let op := w.toNat / 2 ^ 24
      (0x04 ≤ op ∧ op ≤ 0x0F) ∨ (0x17 ≤ op ∧ op ≤ 0x1F) ∨ (0x26 ≤ op ∧ op ≤ 0x2F) ∨ (0x34 ≤ op ∧ op ≤ 0x3F) ∨
        (0x42 ≤ op ∧ op ≤ 0x4F) ∨ (0x57 ≤ op ∧ op ≤ 0x5F) ∨ (0x66 ≤ op ∧ op ≤ 0x6F) ∨ (0x75 ≤ op ∧ op ≤ 0xFF)

/-- 60_exceptions.md R404, over the opcodes and masks of 30_encoding.md R75: a legal opcode with a must-be-zero bit
set is a reserved-field fault, and only that is. -/
def Obligations.ReservedFields : Prop :=
  ∀ row ∈ specRows, ∀ w : Word32, w.toNat / 2 ^ 24 = row.1 →
    (decode w = .error .reservedField ↔ w &&& BitVec.ofNat 32 row.2 ≠ BitVec.ofNat 32 row.1 <<< 24)

/-- 30_encoding.md R77 and 60_exceptions.md R410: a command word presented while `FAULT = 0` raises the first check it
fails, in R77's order, and otherwise its command is executed and no fault is raised. -/
def Obligations.DecodeOrder : Prop :=
  ∀ (s : State) (w : Word32) (d : Block) (rest : List HostMove), s.fault = false → s.inbox = .command w d :: rest →
    (∀ c, specFault w s.kv = some c →
      ∃ t, step s = .next t ∧ t.fault = true ∧ t.cause = causeCode c ∧ (∀ r, t.reg r = s.reg r) ∧ t.rk = s.rk ∧
        t.kv = s.kv ∧ t.dout = s.dout) ∧
    (specFault w s.kv = none →
      ∃ i t, decode w = .ok i ∧ exec i ((s.takeMove rest).setDin d) = .next t ∧ step s = .next t ∧ t.fault = false ∧
        t.cause = s.cause)

/-- 30_encoding.md R80 (assembler text): the text of a command reads back as that command, and the two aliases of R81
read as the commands they stand for. -/
def Obligations.AssemblyRoundTrip : Prop :=
  (∀ i : Instr, assemble (assembly i) = some i) ∧
  ∀ rd rs1 : RegIdx,
    assemble ("GFV.ROTW ".toList ++ regText rd ++ ", ".toList ++ regText rs1) = some (.gfvRotl rd rs1 1) ∧
    assemble ("AES.ARK0 ".toList ++ regText rd ++ ", ".toList ++ regText rs1) = some (.aesArk rd rs1 0)

/-! ## The step -/

/-- A step runs the decoded command: with `FAULT = 0` and a command word at the port, the step is `exec` of the
decoded command in the state that has taken the word and its `DIN` from the port and is otherwise unchanged. -/
def Obligations.StepRunsDecodedCommand : Prop :=
  ∀ (s : State) (w : Word32) (d : Block) (rest : List HostMove) (i : Instr), s.fault = false →
    s.inbox = .command w d :: rest → decode w = .ok i →
    ∃ u, step s = exec i u ∧ SameCore s u ∧ u.din = d ∧ u.inbox = rest

/-- Every step answers a next state and takes at most one move of the host, the first (00_scope.md R15, 20_memory.md
R60). That a step with no move left is a step at all is the model's choice: log entry 3. -/
def Obligations.StepTakesOneMove : Prop := ∀ s : State, ∃ t, step s = .next t ∧ t.inbox = s.inbox.tail

/-- With no move of the host left the state is held (log entry 3, from 60_exceptions.md R425). -/
def Obligations.IdleStepHoldsState : Prop := ∀ s : State, s.inbox = [] → step s = .next s

/-- 60_exceptions.md R402: raising a fault writes `FAULT` and `CAUSE` and nothing else. -/
def Obligations.FaultEntry : Prop :=
  ∀ (c : FaultCause) (s : State),
    ∃ t, raise c s = .next t ∧ t.fault = true ∧
      t.cause = (match c with | .illegalOpcode => 1#4 | .reservedField => 2#4 | .immRange => 3#4 | .keyNotValid => 4#4) ∧
      (∀ r, t.reg r = s.reg r) ∧ t.rk = s.rk ∧ t.kv = s.kv ∧ t.dout = s.dout ∧ SameHost s t

/-- 10_state.md R36: while `FAULT = 1` every command is refused, whatever the word and `DIN`. -/
def Obligations.FaultedStepRefuses : Prop :=
  ∀ (s : State) (w : Word32) (d : Block) (rest : List HostMove), s.fault = true → s.inbox = .command w d :: rest →
    ∃ t, step s = .next t ∧ SameCore s t ∧ t.status = s.status

/-- 60_exceptions.md R411 and R413: the faulted state is terminal until reset. A run of any length in which the host
asserts no reset leaves the six elements as they were, `CAUSE` among them. -/
def Obligations.FaultIsTerminal : Prop :=
  ∀ (n : Nat) (s : State), s.fault = true → (∀ m ∈ s.inbox.take n, m ≠ .reset) →
    ∃ t, RunsTo n s t ∧ SameCore s t ∧ t.status = s.status

/-- 70_reset_and_hazards.md R440: reset, in any state, faulted or not. -/
def Obligations.ResetMove : Prop :=
  ∀ (s : State) (rest : List HostMove), s.inbox = .reset :: rest →
    ∃ t, step s = .next t ∧ (∀ r, t.reg r = 0) ∧ (∀ n : Fin 60, t.rk[n] = 0) ∧ t.kv = false ∧ t.fault = false ∧
      t.cause = 0 ∧ t.dout = 0 ∧ t.status = 0

/-- 10_state.md R47 and 70_reset_and_hazards.md R442: the reset values. -/
def Obligations.ResetValues : Prop :=
  (∀ r, State.reset.reg r = 0) ∧ (∀ n : Fin 60, State.reset.rk[n] = 0) ∧ State.reset.kv = false ∧
    State.reset.fault = false ∧ State.reset.cause = 0 ∧ State.reset.dout = 0 ∧ State.reset.status = 0

/-- 60_exceptions.md R431: the worked fault, for every `DIN` the host presents beside its words. -/
def Obligations.WorkedFault : Prop :=
  ∀ d1 d2 d3 d4 : Block,
    let s := State.reset.present [.command 0x56200000#32 d1, .command 0x01000000#32 d2, .command 0x40000000#32 d3,
      .command 0xFFFFFFFF#32 d4, .reset]
    ∃ t1 t2 t3 t4 t5, step s = .next t1 ∧ step t1 = .next t2 ∧ step t2 = .next t3 ∧ step t3 = .next t4 ∧
      step t4 = .next t5 ∧ t1.status = 0x42#8 ∧ t1.reg 1 = 0 ∧ t2.reg 0 = 0 ∧ t3.kv = false ∧ t4.status = 0x42#8 ∧
      t5.status = 0x00#8

/-- 10_state.md R34: the layout of `STATUS`. -/
def Obligations.StatusLayout : Prop :=
  ∀ s : State, s.status.getLsbD 0 = s.kv ∧ s.status.getLsbD 1 = s.fault ∧ s.status.extractLsb' 2 2 = 0#2 ∧
    s.status.extractLsb' 4 4 = s.cause

/-! ## Invariants and whole-machine rules -/

/-- The invariant holds right after reset. -/
def Obligations.InvariantAtReset : Prop := Invariant State.reset

/-- Every step keeps the invariant, in every state that has it. -/
def Obligations.StepKeepsInvariant : Prop := ∀ s t : State, Invariant s → step s = .next t → Invariant t

/-- 10_state.md R31: only `AES.KEXP` (and reset) changes `RK` or `KV`; it writes the whole schedule and sets `KV`, and
only reset clears `KV` (R32). -/
def Obligations.KeyScheduleWriters : Prop :=
  ∀ s t : State, step s = .next t → t.rk ≠ s.rk ∨ t.kv ≠ s.kv →
    (∃ rest, s.inbox = .reset :: rest) ∨
    ∃ w d rest rs1 rs2, s.inbox = .command w d :: rest ∧ s.fault = false ∧ decode w = .ok (.aesKexp rs1 rs2) ∧
      t.kv = true ∧ IsSchedule (s.reg rs1) (s.reg rs2) (rkWord t.rk)

/-- 10_state.md R37: only `SYS.ST` (and reset) changes `DOUT`, and it leaves there the register it names. -/
def Obligations.DoutWriters : Prop :=
  ∀ s t : State, step s = .next t → t.dout ≠ s.dout →
    (∃ rest, s.inbox = .reset :: rest) ∨
    ∃ w d rest rs1, s.inbox = .command w d :: rest ∧ s.fault = false ∧ decode w = .ok (.sysSt rs1) ∧
      t.dout = s.reg rs1

/-- 20_memory.md R67: `DIN` is read by `SYS.LD` alone. For any other word, two `DIN` values lead to the same state of
the CORE. -/
def Obligations.DinReadOnlyByLd : Prop :=
  ∀ (s : State) (w : Word32) (d1 d2 : Block) (t1 t2 : State), (∀ rd, decode w ≠ .ok (.sysLd rd)) →
    step (s.present [.command w d1]) = .next t1 → step (s.present [.command w d2]) = .next t2 → SameCore t1 t2

/-- 60_exceptions.md R400: a fault is raised by a command only, before it writes anything, and it is detected from the
command word and `KV` alone. -/
def Obligations.FaultDetection : Prop :=
  (∀ s t : State, step s = .next t → s.fault = false → t.fault = true →
    (∃ w d rest, s.inbox = .command w d :: rest) ∧ (∀ r, t.reg r = s.reg r) ∧ t.rk = s.rk ∧ t.kv = s.kv ∧
      t.dout = s.dout) ∧
  ∀ (s1 s2 t1 t2 : State) (w : Word32) (d1 d2 : Block), s1.fault = false → s2.fault = false → s1.kv = s2.kv →
    step (s1.present [.command w d1]) = .next t1 → step (s2.present [.command w d2]) = .next t2 →
    t1.fault = t2.fault ∧ (t1.fault = true → t1.cause = t2.cause)

/-- 00_scope.md R17: a command computes its result from its source registers (and `RK`, and `DIN`) as they were at the
start of the step, and writes only its destination; every other register is unchanged, so are the host's moves, and so
is `RK` but for `AES.KEXP` and `DOUT` but for `SYS.ST`. -/
def Obligations.SourcesAndDestination : Prop :=
  (∀ (i : Instr) (s t : State), exec i s = .next t →
    (∀ r, i.dest ≠ some r → t.reg r = s.reg r) ∧ SameHost s t ∧
    ((∀ rs1 rs2, i ≠ .aesKexp rs1 rs2) → t.rk = s.rk ∧ t.kv = s.kv) ∧ ((∀ rs1, i ≠ .sysSt rs1) → t.dout = s.dout)) ∧
  ∀ (i : Instr) (s1 s2 t1 t2 : State), (∀ r ∈ i.sources, s1.reg r = s2.reg r) → s1.din = s2.din →
    (i.needsKey = true → s1.rk = s2.rk) → s1.kv = s2.kv → exec i s1 = .next t1 → exec i s2 = .next t2 →
    s1.fault = false → s2.fault = false → t1.fault = false →
    t2.fault = false ∧ (∀ r, i.dest = some r → t1.reg r = t2.reg r) ∧
      (∀ rs1 rs2, i = .aesKexp rs1 rs2 → t1.rk = t2.rk) ∧ (∀ rs1, i = .sysSt rs1 → t1.dout = t2.dout)

/-- Every command completes: with a legal immediate, and `KV = 1` where it reads `RK`, it answers a next state and
raises nothing; otherwise it raises `IMM_RANGE`, before `KEY_NOT_VALID` where both apply (60_exceptions.md R405, R406,
R410). -/
def Obligations.LegalCommandsComplete : Prop :=
  ∀ (i : Instr) (s : State), s.fault = false →
    (i.wellFormed = true → (i.needsKey = true → s.kv = true) →
      ∃ t, exec i s = .next t ∧ t.fault = false ∧ t.cause = s.cause) ∧
    (i.wellFormed = false → Raises i s 3) ∧
    (i.wellFormed = true → i.needsKey = true → s.kv = false → Raises i s 4)

/-- 10_state.md R21 and R22: the GF(2^8) scalar commands read `b0` of their sources and leave bits 127:8 of `rd` zero;
the vector commands read `w0` and leave bits 127:32 zero, `GFV.RCON` for each of its legal indices (42_gf256_vec.md
R134), and `GFM.MULV`, whose matrix is the one source read whole. -/
def Obligations.NarrowOperands : Prop :=
  ∀ (s1 s2 : State) (rd rs1 rs2 : RegIdx) (n : Imm8),
    ((∀ r, b0 (s1.reg r) = b0 (s2.reg r)) →
      ∀ i ∈ [Instr.gf8Add rd rs1 rs2, .gf8Xt rd rs1, .gf8Mul rd rs1 rs2, .gf8Pow rd rs1 n, .gf8Inv rd rs1,
          .gf8Sbox rd rs1, .gf8Isbox rd rs1],
        ∃ t1 t2, exec i s1 = .next t1 ∧ exec i s2 = .next t2 ∧ t1.reg rd = t2.reg rd ∧ (t1.reg rd).toNat < 2 ^ 8) ∧
    ((∀ r, w0 (s1.reg r) = w0 (s2.reg r)) →
      ∀ i ∈ [Instr.gfvAdd rd rs1 rs2, .gfvRotl rd rs1 n, .gfvDot rd rs1 rs2, .gfvSubw rd rs1],
        ∃ t1 t2, exec i s1 = .next t1 ∧ exec i s2 = .next t2 ∧ t1.reg rd = t2.reg rd ∧ (t1.reg rd).toNat < 2 ^ 32) ∧
    ((∀ r, w0 (s1.reg r) = w0 (s2.reg r)) → 1 ≤ n.toNat → n.toNat ≤ 10 →
      ∃ t1 t2, exec (.gfvRcon rd rs1 n) s1 = .next t1 ∧ exec (.gfvRcon rd rs1 n) s2 = .next t2 ∧
        t1.reg rd = t2.reg rd ∧ (t1.reg rd).toNat < 2 ^ 32) ∧
    ((∀ r, w0 (s1.reg r) = w0 (s2.reg r)) → s1.reg rs1 = s2.reg rs1 →
      ∃ t1 t2, exec (.gfmMulv rd rs1 rs2) s1 = .next t1 ∧ exec (.gfmMulv rd rs1 rs2) s2 = .next t2 ∧
        t1.reg rd = t2.reg rd ∧ (t1.reg rd).toNat < 2 ^ 32)

/-! ## System commands (48_system.md) -/

/-- R330 to R333. -/
def Obligations.SystemCommands : Prop :=
  ∀ (s : State) (rd rs1 : RegIdx), s.fault = false →
    (Encodes (r71Word 0x00 0 0 0 0) 0xFFFFFFFF#32 .sysNop ∧ exec .sysNop s = .next s) ∧
    Does (r71Word 0x01 rd 0 0 0) 0xFF1FFFFF#32 (.sysLd rd) s rd s.din ∧
    (Encodes (r71Word 0x02 0 rs1 0 0) 0xFFE3FFFF#32 (.sysSt rs1) ∧
      ∃ t, exec (.sysSt rs1) s = .next t ∧ t.dout = s.reg rs1 ∧ (∀ r, t.reg r = s.reg r) ∧ t.rk = s.rk ∧
        t.kv = s.kv ∧ t.fault = s.fault ∧ t.cause = s.cause ∧ SameHost s t) ∧
    Does (r71Word 0x03 rd rs1 0 0) 0xFF03FFFF#32 (.sysMov rd rs1) s rd (s.reg rs1)

/-! ## GF(2^8) (41_gf256.md, 42_gf256_vec.md) -/

/-- R110 to R116. -/
def Obligations.Gf8Commands : Prop :=
  ∀ (s : State) (rd rs1 rs2 : RegIdx) (n : Imm8), s.fault = false →
    let a := b0 (s.reg rs1)
    let b := b0 (s.reg rs2)
    Does (r71Word 0x10 rd rs1 rs2 0) 0xFF007FFF#32 (.gf8Add rd rs1 rs2) s rd ((a ^^^ b).setWidth 128) ∧
    Does (r71Word 0x11 rd rs1 0 0) 0xFF03FFFF#32 (.gf8Xt rd rs1) s rd
      ((a <<< 1 ^^^ if a.getLsbD 7 then 0x1b#8 else 0#8).setWidth 128) ∧
    Does (r71Word 0x12 rd rs1 rs2 0) 0xFF007FFF#32 (.gf8Mul rd rs1 rs2) s rd ((multiply a b).setWidth 128) ∧
    Does (r71Word 0x13 rd rs1 0 n) 0xFF03FF00#32 (.gf8Pow rd rs1 n) s rd
      (((fun r => multiply r a)^[n.toNat] 1#8).setWidth 128) ∧
    Does (r71Word 0x14 rd rs1 0 0) 0xFF03FFFF#32 (.gf8Inv rd rs1) s rd
      (((fun r => multiply r a)^[254] 1#8).setWidth 128) ∧
    Does (r71Word 0x15 rd rs1 0 0) 0xFF03FFFF#32 (.gf8Sbox rd rs1) s rd ((sbox a).setWidth 128) ∧
    Does (r71Word 0x16 rd rs1 0 0) 0xFF03FFFF#32 (.gf8Isbox rd rs1) s rd ((isbox a).setWidth 128)

/-- R130 to R135. -/
def Obligations.GfvCommands : Prop :=
  ∀ (s : State) (rd rs1 rs2 : RegIdx) (n : Imm8), s.fault = false →
    let u := w0 (s.reg rs1)
    let w := w0 (s.reg rs2)
    let k := 8 * (n.toNat % 4)
    let dot (x y : Word32) : Byte := (List.range 4).foldl (fun acc j => acc ^^^ multiply (elem x j) (elem y j)) 0
    Does (r71Word 0x20 rd rs1 rs2 0) 0xFF007FFF#32 (.gfvAdd rd rs1 rs2) s rd ((u ^^^ w).setWidth 128) ∧
    Does (r71Word 0x21 rd rs1 0 n) 0xFF03FF00#32 (.gfvRotl rd rs1 n) s rd ((u >>> k ||| u <<< (32 - k)).setWidth 128) ∧
    Does (r71Word 0x22 rd rs1 rs2 0) 0xFF007FFF#32 (.gfvDot rd rs1 rs2) s rd ((dot u w).setWidth 128) ∧
    Does (r71Word 0x23 rd rs1 0 0) 0xFF03FFFF#32 (.gfvSubw rd rs1) s rd
      ((vec (sbox (elem u 0)) (sbox (elem u 1)) (sbox (elem u 2)) (sbox (elem u 3))).setWidth 128) ∧
    Encodes (r71Word 0x24 rd rs1 0 n) 0xFF03FF00#32 (.gfvRcon rd rs1 n) ∧
    (1 ≤ n.toNat → n.toNat ≤ 10 →
      Writes (.gfvRcon rd rs1 n) s rd ((u ^^^ (power 0x02#8 (n.toNat - 1)).setWidth 32).setWidth 128)) ∧
    (n.toNat = 0 ∨ 11 ≤ n.toNat → Raises (.gfvRcon rd rs1 n) s 3) ∧
    Does (r71Word 0x25 rd rs1 rs2 0) 0xFF007FFF#32 (.gfmMulv rd rs1 rs2) s rd
      ((vec (dot (row (s.reg rs1) 0) w) (dot (row (s.reg rs1) 1) w) (dot (row (s.reg rs1) 2) w)
        (dot (row (s.reg rs1) 3) w)).setWidth 128)

/-- 41_gf256.md R101, R102 and 43_gf128.md R161, R162: the doubling and the multiplication loops, as the spec writes
them. -/
def Obligations.FieldLoops : Prop :=
  (∀ a : Byte, xtimes a = (a &&& 0x7f#8) <<< 1 ^^^ if a.getLsbD 7 then 0x1b#8 else 0x00#8) ∧
  (∀ a b : Byte,
    multiply a b =
      ((List.range 8).foldl (fun p k => (if b.getLsbD k then p.1 ^^^ p.2 else p.1, xtimes p.2)) (0#8, a)).1) ∧
  (∀ a : Block,
    qxtimes a = (a &&& BitVec.ofNat 128 (2 ^ 127 - 1)) <<< 1 ^^^
      if a.getLsbD 127 then 0xC2000000000000000000000000000001#128 else 0#128) ∧
  ∀ a b : Block,
    qmultiply a b =
      ((List.range 128).foldl (fun p k => (if b.getLsbD k then p.1 ^^^ p.2 else p.1, qxtimes p.2)) (0#128, a)).1

/-- `multiply` is the product of polynomials over GF(2) modulo `x^8 + x^4 + x^3 + x + 1` (00_scope.md R18,
41_gf256.md R102, R107). -/
def Obligations.MultiplyIsFieldProduct : Prop :=
  ∀ a b : Byte, ∃ pa pb pc : Polynomial (ZMod 2), Represents a pa ∧ Represents b pb ∧ Represents (multiply a b) pc ∧
    (Polynomial.X ^ 8 + Polynomial.X ^ 4 + Polynomial.X ^ 3 + Polynomial.X + 1) ∣ (pc - pa * pb)

/-- 41_gf256.md R107: the laws of the AES field. -/
def Obligations.Gf8FieldLaws : Prop :=
  (∀ a : Byte, a ≠ 0 → multiply a (inverse a) = 1) ∧ (∀ a b, multiply a b = multiply b a) ∧
  (∀ a b c, multiply a (gadd b c) = gadd (multiply a b) (multiply a c)) ∧
  (∀ a b c, multiply (multiply a b) c = multiply a (multiply b c)) ∧ ∀ a, multiply a 1 = a ∧ multiply 1 a = a

/-- 41_gf256.md R105 and R106: the S-box is the affine map of the inverse, a permutation without a fixed point, and
the inverse box is its inverse. -/
def Obligations.SboxLaws : Prop :=
  (∀ (a : Byte) (i : Fin 8),
    (sbox a).getLsbD i =
      ((inverse a).getLsbD i ^^ (inverse a).getLsbD ((i + 4) % 8) ^^ (inverse a).getLsbD ((i + 5) % 8) ^^
        (inverse a).getLsbD ((i + 6) % 8) ^^ (inverse a).getLsbD ((i + 7) % 8) ^^ (0x63#8).getLsbD i)) ∧
  (∀ a : Byte, isbox (sbox a) = a ∧ sbox (isbox a) = a) ∧ ∀ a : Byte, sbox a ≠ a

/-! ## GF(2^128) (43_gf128.md) -/

/-- R170 to R173. -/
def Obligations.GfqCommands : Prop :=
  ∀ (s : State) (rd rs1 rs2 : RegIdx), s.fault = false →
    let a := s.reg rs1
    let b := s.reg rs2
    Does (r71Word 0x30 rd rs1 rs2 0) 0xFF007FFF#32 (.gfqAdd rd rs1 rs2) s rd (a ^^^ b) ∧
    Does (r71Word 0x31 rd rs1 0 0) 0xFF03FFFF#32 (.gfqXt rd rs1) s rd
      (a <<< 1 ^^^ if a.getLsbD 127 then 0xC2000000000000000000000000000001#128 else 0#128) ∧
    Does (r71Word 0x32 rd rs1 rs2 0) 0xFF007FFF#32 (.gfqMul rd rs1 rs2) s rd (qmultiply a b) ∧
    Does (r71Word 0x33 rd rs1 rs2 0) 0xFF007FFF#32 (.gfqDot rd rs1 rs2) s rd
      (qmultiply (qmultiply a b) 0x92040000000000000000000000000001#128)

/-- `qmultiply` is the product of polynomials over GF(2) modulo `x^128 + x^127 + x^126 + x^121 + 1` (43_gf128.md R161,
R162). -/
def Obligations.QmultiplyIsFieldProduct : Prop :=
  ∀ a b : Block, ∃ pa pb pc : Polynomial (ZMod 2), Represents a pa ∧ Represents b pb ∧ Represents (qmultiply a b) pc ∧
    (Polynomial.X ^ 128 + Polynomial.X ^ 127 + Polynomial.X ^ 126 + Polynomial.X ^ 121 + 1) ∣ (pc - pa * pb)

/-- 43_gf128.md R162 and R163: `qmultiply` is commutative and associative, distributes over `qadd` and has identity 1;
`C128` is the inverse of `R128`, so `R128` is the identity of `qdot`. -/
def Obligations.QmultiplyLaws : Prop :=
  (∀ a b, qmultiply a b = qmultiply b a) ∧ (∀ a b c, qmultiply (qmultiply a b) c = qmultiply a (qmultiply b c)) ∧
  (∀ a b c, qmultiply a (qadd b c) = qadd (qmultiply a b) (qmultiply a c)) ∧
  (∀ a, qmultiply a 0 = 0 ∧ qmultiply a 1 = a ∧ qmultiply a 2 = qxtimes a) ∧
  qmultiply 0x92040000000000000000000000000001#128 0xC2000000000000000000000000000001#128 = 1 ∧
  ∀ a b, qdot a 0xC2000000000000000000000000000001#128 = a ∧ qdot a b = qdot b a

/-! ## Key schedule (44_aes_key.md) -/

/-- R190, with R180 and R181: `AES.KEXP` writes the 60 words of the key's schedule and sets `KV`, and nothing else. -/
def Obligations.KexpWritesSchedule : Prop :=
  ∀ (s : State) (rs1 rs2 : RegIdx), s.fault = false →
    Encodes (r71Word 0x40 0 rs1 rs2 0) 0xFFE07FFF#32 (.aesKexp rs1 rs2) ∧
    ∃ t, exec (.aesKexp rs1 rs2) s = .next t ∧ IsSchedule (s.reg rs1) (s.reg rs2) (rkWord t.rk) ∧ t.kv = true ∧
      (∀ r, t.reg r = s.reg r) ∧ t.fault = s.fault ∧ t.cause = s.cause ∧ t.dout = s.dout ∧ SameHost s t

/-- R191, with 10_state.md R30: `AES.RKRD`, and its two faults in their order. -/
def Obligations.RkrdReadsRoundKey : Prop :=
  ∀ (s : State) (rd : RegIdx) (r : Imm8), s.fault = false →
    Encodes (r71Word 0x41 rd 0 0 r) 0xFF1FFF00#32 (.aesRkrd rd r) ∧
    (r.toNat ≤ 14 → s.kv = true →
      Writes (.aesRkrd rd r) s rd
        (mat (rkWord s.rk (4 * r.toNat)) (rkWord s.rk (4 * r.toNat + 1)) (rkWord s.rk (4 * r.toNat + 2))
          (rkWord s.rk (4 * r.toNat + 3)))) ∧
    (15 ≤ r.toNat → Raises (.aesRkrd rd r) s 3) ∧ (r.toNat ≤ 14 → s.kv = false → Raises (.aesRkrd rd r) s 4)

/-! ## AES rounds (45_aes_enc.md, 46_aes_dec.md) -/

/-- R230 to R232 and R270 to R272, with the transforms of R220 to R222 and R260 to R262 byte by byte. -/
def Obligations.AesTransformCommands : Prop :=
  ∀ (s : State) (rd rs1 : RegIdx), s.fault = false →
    let v := s.reg rs1
    let m (c : Byte) (i j : Nat) : Byte := multiply c (st v i j)
    (∃ x, Does (r71Word 0x50 rd rs1 0 0) 0xFF03FFFF#32 (.aesSub rd rs1) s rd x ∧
      ∀ k < 16, byte x k = sbox (byte v k)) ∧
    (∃ x, Does (r71Word 0x51 rd rs1 0 0) 0xFF03FFFF#32 (.aesShr rd rs1) s rd x ∧
      ∀ i < 4, ∀ j < 4, st x i j = st v ((i + j) % 4) j) ∧
    (∃ x, Does (r71Word 0x52 rd rs1 0 0) 0xFF03FFFF#32 (.aesMix rd rs1) s rd x ∧
      ∀ i < 4,
        st x i 0 = m 2 i 0 ^^^ m 3 i 1 ^^^ st v i 2 ^^^ st v i 3 ∧
        st x i 1 = st v i 0 ^^^ m 2 i 1 ^^^ m 3 i 2 ^^^ st v i 3 ∧
        st x i 2 = st v i 0 ^^^ st v i 1 ^^^ m 2 i 2 ^^^ m 3 i 3 ∧
        st x i 3 = m 3 i 0 ^^^ st v i 1 ^^^ st v i 2 ^^^ m 2 i 3) ∧
    (∃ x, Does (r71Word 0x60 rd rs1 0 0) 0xFF03FFFF#32 (.aesIsub rd rs1) s rd x ∧
      ∀ k < 16, byte x k = isbox (byte v k)) ∧
    (∃ x, Does (r71Word 0x61 rd rs1 0 0) 0xFF03FFFF#32 (.aesIshr rd rs1) s rd x ∧
      ∀ i < 4, ∀ j < 4, st x i j = st v ((i + 4 - j) % 4) j) ∧
    ∃ x, Does (r71Word 0x62 rd rs1 0 0) 0xFF03FFFF#32 (.aesImix rd rs1) s rd x ∧
      ∀ i < 4,
        st x i 0 = m 14 i 0 ^^^ m 11 i 1 ^^^ m 13 i 2 ^^^ m 9 i 3 ∧
        st x i 1 = m 9 i 0 ^^^ m 14 i 1 ^^^ m 11 i 2 ^^^ m 13 i 3 ∧
        st x i 2 = m 13 i 0 ^^^ m 9 i 1 ^^^ m 14 i 2 ^^^ m 11 i 3 ∧
        st x i 3 = m 11 i 0 ^^^ m 13 i 1 ^^^ m 9 i 2 ^^^ m 14 i 3

/-- R233 to R236 (with R223 to R226): the encryption commands that read `RK`, and their faults. -/
def Obligations.AesEncryptCommands : Prop :=
  ∀ (s : State) (rd rs1 : RegIdx) (r : Imm8), s.fault = false →
    let v := s.reg rs1
    let round (x : Block) (n : Nat) : Block := mixcolumns (shiftrows (subbytes x)) ^^^ rk128 s.rk n
    let last (x : Block) : Block := shiftrows (subbytes x) ^^^ rk128 s.rk 14
    Encodes (r71Word 0x53 rd rs1 0 r) 0xFF03FF00#32 (.aesArk rd rs1 r) ∧
    (r.toNat ≤ 14 → s.kv = true → Writes (.aesArk rd rs1 r) s rd (v ^^^ rk128 s.rk r.toNat)) ∧
    (15 ≤ r.toNat → Raises (.aesArk rd rs1 r) s 3) ∧ (r.toNat ≤ 14 → s.kv = false → Raises (.aesArk rd rs1 r) s 4) ∧
    Encodes (r71Word 0x54 rd rs1 0 r) 0xFF03FF00#32 (.aesEncr rd rs1 r) ∧
    (1 ≤ r.toNat → r.toNat ≤ 13 → s.kv = true → Writes (.aesEncr rd rs1 r) s rd (round v r.toNat)) ∧
    (r.toNat = 0 ∨ 14 ≤ r.toNat → Raises (.aesEncr rd rs1 r) s 3) ∧
    (1 ≤ r.toNat → r.toNat ≤ 13 → s.kv = false → Raises (.aesEncr rd rs1 r) s 4) ∧
    Encodes (r71Word 0x55 rd rs1 0 0) 0xFF03FFFF#32 (.aesEncl rd rs1) ∧
    (s.kv = true → Writes (.aesEncl rd rs1) s rd (last v)) ∧ (s.kv = false → Raises (.aesEncl rd rs1) s 4) ∧
    Encodes (r71Word 0x56 rd rs1 0 0) 0xFF03FFFF#32 (.aesEnc rd rs1) ∧
    (s.kv = true →
      Writes (.aesEnc rd rs1) s rd (last ((List.range' 1 13).foldl round (v ^^^ rk128 s.rk 0)))) ∧
    (s.kv = false → Raises (.aesEnc rd rs1) s 4)

/-- R273 to R275 (with R263 to R265): the decryption commands that read `RK`, and their faults. -/
def Obligations.AesDecryptCommands : Prop :=
  ∀ (s : State) (rd rs1 : RegIdx) (r : Imm8), s.fault = false →
    let v := s.reg rs1
    let round (x : Block) (n : Nat) : Block := invsubbytes (invshiftrows (invmixcolumns (x ^^^ rk128 s.rk n)))
    let first (x : Block) : Block := invsubbytes (invshiftrows (x ^^^ rk128 s.rk 14))
    Encodes (r71Word 0x63 rd rs1 0 r) 0xFF03FF00#32 (.aesDecr rd rs1 r) ∧
    (1 ≤ r.toNat → r.toNat ≤ 13 → s.kv = true → Writes (.aesDecr rd rs1 r) s rd (round v r.toNat)) ∧
    (r.toNat = 0 ∨ 14 ≤ r.toNat → Raises (.aesDecr rd rs1 r) s 3) ∧
    (1 ≤ r.toNat → r.toNat ≤ 13 → s.kv = false → Raises (.aesDecr rd rs1 r) s 4) ∧
    Encodes (r71Word 0x64 rd rs1 0 0) 0xFF03FFFF#32 (.aesDecf rd rs1) ∧
    (s.kv = true → Writes (.aesDecf rd rs1) s rd (first v)) ∧ (s.kv = false → Raises (.aesDecf rd rs1) s 4) ∧
    Encodes (r71Word 0x65 rd rs1 0 0) 0xFF03FFFF#32 (.aesDec rd rs1) ∧
    (s.kv = true →
      Writes (.aesDec rd rs1) s rd ((List.range' 1 13).reverse.foldl round (first v) ^^^ rk128 s.rk 0)) ∧
    (s.kv = false → Raises (.aesDec rd rs1) s 4)

/-- The block commands are their rounds in sequence (45_aes_enc.md R236, 46_aes_dec.md R275), in every state, and each
round is its transforms in sequence where its immediate is legal and `KV = 1` (R234, R235, R273, R274). -/
def Obligations.BlockCommandsAreTheirRounds : Prop :=
  ∀ (s : State) (rd rs1 : RegIdx) (r : Imm8),
    hostDo (.aesEnc rd rs1) s =
      hostDoAll ([.aesArk rd rs1 0] ++ (List.range' 1 13).map (fun n => .aesEncr rd rd (BitVec.ofNat 8 n)) ++
        [.aesEncl rd rd]) s ∧
    hostDo (.aesDec rd rs1) s =
      hostDoAll ([.aesDecf rd rs1] ++ (List.range' 1 13).reverse.map (fun n => .aesDecr rd rd (BitVec.ofNat 8 n)) ++
        [.aesArk rd rd 0]) s ∧
    (s.kv = true →
      hostDo (.aesEncl rd rs1) s = hostDoAll [.aesSub rd rs1, .aesShr rd rd, .aesArk rd rd 14] s ∧
      hostDo (.aesDecf rd rs1) s = hostDoAll [.aesArk rd rs1 14, .aesIshr rd rd, .aesIsub rd rd] s ∧
      (1 ≤ r.toNat → r.toNat ≤ 13 →
        hostDo (.aesEncr rd rs1 r) s = hostDoAll [.aesSub rd rs1, .aesShr rd rd, .aesMix rd rd, .aesArk rd rd r] s ∧
        hostDo (.aesDecr rd rs1 r) s = hostDoAll [.aesArk rd rs1 r, .aesImix rd rd, .aesIshr rd rd, .aesIsub rd rd] s))

/-- The inverse transforms and rounds undo the forward ones (46_aes_dec.md R260 to R264). -/
def Obligations.InverseTransforms : Prop :=
  ∀ (rk : Vector Word32 Config.nRk) (x : Block) (r : Nat),
    invsubbytes (subbytes x) = x ∧ invshiftrows (shiftrows x) = x ∧ invmixcolumns (mixcolumns x) = x ∧
    decround rk (encround rk x r) r = x ∧ decfirst rk (enclast rk x) = x ∧
    invshiftrows (invsubbytes x) = invsubbytes (invshiftrows x)

/-- 45_aes_enc.md R227: SubBytes and ShiftRows commute; 44_aes_key.md R183: SubWord and RotWord commute. -/
def Obligations.SubstituteAndMoveCommute : Prop :=
  (∀ x : Block, shiftrows (subbytes x) = subbytes (shiftrows x)) ∧
  ∀ t : Word32, subword (vrotl t 1) = vrotl (subword t) 1

/-- 46_aes_dec.md R265 (last sentences) at the level of commands: under one schedule `AES.DEC` after `AES.ENC`, and
`AES.ENC` after `AES.DEC`, give the block back. -/
def Obligations.DecryptUndoesEncrypt : Prop :=
  ∀ (s : State) (rd rs1 : RegIdx), s.fault = false → s.kv = true →
    (∃ t u, exec (.aesEnc rd rs1) s = .next t ∧ exec (.aesDec rd rd) t = .next u ∧ u.reg rd = s.reg rs1 ∧
      SameExceptReg rd s u) ∧
    ∃ t u, exec (.aesDec rd rs1) s = .next t ∧ exec (.aesEnc rd rd) t = .next u ∧ u.reg rd = s.reg rs1 ∧
      SameExceptReg rd s u

/-! ## CTR, POLYVAL and SIV steps (47_ctr_polyval_siv.md) -/

/-- R300 to R304. -/
def Obligations.SivStepCommands : Prop :=
  ∀ (s : State) (rd rs1 rs2 : RegIdx), s.fault = false →
    let a := s.reg rs1
    let b := s.reg rs2
    (∃ x, Does (r71Word 0x70 rd rs1 0 0) 0xFF03FFFF#32 (.ctrInc rd rs1) s rd x ∧
      x.toNat % 2 ^ 32 = (a.toNat % 2 ^ 32 + 1) % 2 ^ 32 ∧ x.toNat / 2 ^ 32 = a.toNat / 2 ^ 32) ∧
    Does (r71Word 0x71 rd rs1 rs2 0) 0xFF007FFF#32 (.pvStep rd rs1 rs2) s rd
      (qmultiply (qmultiply (s.reg rd ^^^ a) b) 0x92040000000000000000000000000001#128) ∧
    (∃ x, Does (r71Word 0x72 rd rs1 0 0) 0xFF03FFFF#32 (.sivClr7 rd rs1) s rd x ∧
      byte x 15 = byte a 15 &&& 0x7f#8 ∧ ∀ k < 15, byte x k = byte a k) ∧
    (∃ x, Does (r71Word 0x73 rd rs1 0 0) 0xFF03FFFF#32 (.sivSet7 rd rs1) s rd x ∧
      byte x 15 = byte a 15 ||| 0x80#8 ∧ ∀ k < 15, byte x k = byte a k) ∧
    ∃ e : Byte, Does (r71Word 0x74 rd rs1 rs2 0) 0xFF007FFF#32 (.sivCmp rd rs1 rs2) s rd (e.setWidth 128) ∧
      (∀ n < 8, e.getLsbD n = true ↔ ∃ k < 16, (byte a k).getLsbD n ≠ (byte b k).getLsbD n) ∧ (e = 0 ↔ a = b)

/-! ## Constructions and host sequences (49_composition.md) -/

/-- R351 and R352: byte `16t + k` of `CTR` is byte `16t + k` of the message XOR byte `k` of the encryption of the
counter block with its low 32 bits advanced by `t` modulo `2^32`. -/
def Obligations.CtrBytes : Prop :=
  ∀ (rk : Vector Word32 Config.nRk) (cb : Block) (m : List Byte),
    (ctr rk cb m).length = m.length ∧
    ∀ (j : Nat) (h : j < m.length), ∃ cbt : Block,
      cbt.toNat % 2 ^ 32 = (cb.toNat % 2 ^ 32 + j / 16) % 2 ^ 32 ∧ cbt.toNat / 2 ^ 32 = cb.toNat / 2 ^ 32 ∧
      (ctr rk cb m)[j]? = some (m[j] ^^^ byte (encrypt rk cbt) (j % 16))

/-- R351: encryption and decryption are the same function. -/
def Obligations.CtrInvolution : Prop :=
  ∀ (rk : Vector Word32 Config.nRk) (cb : Block) (m : List Byte), ctr rk cb (ctr rk cb m) = m

/-- R357: `pad` adds the fewest zero bytes that make the length a multiple of 16. -/
def Obligations.PadRule : Prop :=
  ∀ x : List Byte, ∃ z : Nat, pad x = x ++ List.replicate z 0 ∧ (x.length + z) % 16 = 0 ∧ z ≤ 15 ∧
    ∀ y, (x.length + y) % 16 = 0 → z ≤ y

/-- R353: the derived keys are 16 and 32 bytes long, the tag adds 16 bytes, and what POLYVAL hashes is whole blocks
(R354). R358: byte `j` of the length block is byte `j`, low byte first, of the 64-bit bit length of the associated data,
and byte `8 + j` that of the plaintext. R359: POLYVAL hashes the padded associated data, then the padded plaintext, then
the length block. -/
def Obligations.ConstructionLengths : Prop :=
  ∀ k n p a : List Byte,
    ((derive k n).1.length = 16 ∧ (derive k n).2.length = 32 ∧ (sivInput a p).length % 16 = 0 ∧
      (sivEncrypt k n p a).length = p.length + 16) ∧
    ((lenblock a p).length = 16 ∧
      ∀ j < 8, (lenblock a p)[j]? = some (BitVec.ofNat 8 (8 * a.length / 256 ^ j)) ∧
        (lenblock a p)[8 + j]? = some (BitVec.ofNat 8 (8 * p.length / 256 ^ j))) ∧
    sivInput a p = pad a ++ pad p ++ lenblock a p

/-- The round trip of R363, for every key, nonce, plaintext and associated data. R363 speaks of 32-byte keys and 12-byte
nonces; that the functions answer at other lengths too is the model's choice (log entry 14). -/
def Obligations.SivRoundTrip : Prop :=
  ∀ k n p a : List Byte, sivDecrypt k n (sivEncrypt k n p a) a = .plaintext p

/-- R381: the key-derivation sequence computes `derive` (R356) and leaves the master key's schedule in `RK`. -/
def Obligations.HostDeriveComputesDerive : Prop :=
  ∀ (k n : List Byte) (s : State), s.fault = false →
    ∃ t, hostDerive k n s = .next (derive k n, t) ∧ t.fault = false ∧ t.kv = true ∧ t.rk = keyexpand k ∧
      t.inbox = s.inbox

/-- R382: the set-up sequence. -/
def Obligations.HostSetupLoadsKeys : Prop :=
  ∀ (authKey encKey : List Byte) (s : State), s.fault = false →
    ∃ t, hostSetup authKey encKey s = .next t ∧ t.reg 4 = blk authKey ∧ t.rk = keyexpand encKey ∧ t.kv = true ∧
      t.fault = false ∧ t.inbox = s.inbox

/-- R383: the tag sequence leaves `sivtag` (R359) in `V3`, under the hash key in `V4` and the schedule in `RK`. -/
def Obligations.HostTagComputesSivtag : Prop :=
  ∀ (n a p : List Byte) (s : State), s.fault = false → s.kv = true →
    ∃ t, hostTag n a p s = .next t ∧ t.reg 3 = sivtag (s.reg 4) s.rk n a p ∧ t.reg 4 = s.reg 4 ∧ t.reg 7 = s.reg 7 ∧
      t.rk = s.rk ∧ t.kv = true ∧ t.fault = false ∧ t.inbox = s.inbox

/-- R384: the CTR sequence computes `CTR` (R351) from the counter block in `V2`. -/
def Obligations.HostCtrComputesCtr : Prop :=
  ∀ (m : List Byte) (s : State), s.fault = false → s.kv = true →
    ∃ t, hostCtr m s = .next (ctr s.rk (s.reg 2) m, t) ∧ t.reg 4 = s.reg 4 ∧ t.reg 7 = s.reg 7 ∧ t.rk = s.rk ∧
      t.kv = true ∧ t.fault = false ∧ t.inbox = s.inbox

/-- R385: the host's `encrypt` on the CORE returns `siv_encrypt` (R360) for every input the host accepts (R353, R9),
and does not start on any other (log entry 11). -/
def Obligations.HostEncryptIsSivEncrypt : Prop :=
  ∀ (k n p a : List Byte) (s : State), s.fault = false →
    (k.length = 32 → n.length = 12 → p.length ≤ Config.maxMsgBytes.val → a.length ≤ Config.maxMsgBytes.val →
      ∃ t, hostEncrypt k n p a s = some (.next (sivEncrypt k n p a, t)) ∧ t.fault = false ∧ t.inbox = s.inbox) ∧
    (k.length ≠ 32 ∨ n.length ≠ 12 ∨ Config.maxMsgBytes.val < p.length ∨ Config.maxMsgBytes.val < a.length →
      hostEncrypt k n p a s = none)

/-- R386: the host's `decrypt` on the CORE returns `siv_decrypt` (R361), the plaintext or a failure. A failed
authentication raises no fault (R362); an input too short for a tag is a failure (92_eei_decisions.md D35).
The bound on the message is on the input less its tag (log entry 11). -/
def Obligations.HostDecryptIsSivDecrypt : Prop :=
  ∀ (k n input a : List Byte) (s : State), s.fault = false →
    (k.length = 32 → n.length = 12 → input.length - 16 ≤ Config.maxMsgBytes.val →
      a.length ≤ Config.maxMsgBytes.val →
      ∃ t, hostDecrypt k n input a s = some (.next (sivDecrypt k n input a, t)) ∧ t.fault = false ∧
        t.inbox = s.inbox) ∧
    (k.length ≠ 32 ∨ n.length ≠ 12 ∨ Config.maxMsgBytes.val < input.length - 16 ∨
      Config.maxMsgBytes.val < a.length → hostDecrypt k n input a s = none)
end

