-- ==== Sys2Proof/Laws/Decode.lean ====
section
/-! SUPPORT. The fields of a packed command word, and the opcode table's own laws. -/

namespace Sys2Proof

@[simp] theorem opField_packWord (op : BitVec 8) (rd rs1 rs2 : RegIdx) (imm : Imm8) :
    opField (packWord op rd rs1 rs2 imm) = op := by
  ext i hi; simp [opField, packWord]; grind

theorem regBits_toFin (r : RegIdx) : (regBits r).toFin = r := rfl

@[simp] theorem rdField_packWord (op : BitVec 8) (rd rs1 rs2 : RegIdx) (imm : Imm8) :
    rdField (packWord op rd rs1 rs2 imm) = rd := by
  have h : (packWord op rd rs1 rs2 imm).extractLsb' 21 3 = regBits rd := by
    ext i hi; simp [packWord]; grind
  rw [rdField, h]; rfl

@[simp] theorem rs1Field_packWord (op : BitVec 8) (rd rs1 rs2 : RegIdx) (imm : Imm8) :
    rs1Field (packWord op rd rs1 rs2 imm) = rs1 := by
  have h : (packWord op rd rs1 rs2 imm).extractLsb' 18 3 = regBits rs1 := by
    ext i hi; simp [packWord]; grind
  rw [rs1Field, h]; rfl

@[simp] theorem rs2Field_packWord (op : BitVec 8) (rd rs1 rs2 : RegIdx) (imm : Imm8) :
    rs2Field (packWord op rd rs1 rs2 imm) = rs2 := by
  have h : (packWord op rd rs1 rs2 imm).extractLsb' 15 3 = regBits rs2 := by
    ext i hi; simp [packWord]; grind
  rw [rs2Field, h]; rfl

@[simp] theorem rsvField_packWord (op : BitVec 8) (rd rs1 rs2 : RegIdx) (imm : Imm8) :
    rsvField (packWord op rd rs1 rs2 imm) = 0 := by
  ext i hi; simp [rsvField, packWord]; grind

@[simp] theorem immField_packWord (op : BitVec 8) (rd rs1 rs2 : RegIdx) (imm : Imm8) :
    immField (packWord op rd rs1 rs2 imm) = imm := by
  ext i hi; simp [immField, packWord]; grind

/-- A word is its fields (R71), its reserved bits included. -/
theorem word_eq_fields (w : Word32) :
    w = packWord (opField w) (rdField w) (rs1Field w) (rs2Field w) (immField w) ||| (rsvField w).setWidth 32 <<< 8 := by
  have h (n : Nat) : regBits (w.extractLsb' n 3).toFin = w.extractLsb' n 3 := rfl
  simp only [packWord, opField, rdField, rs1Field, rs2Field, immField, rsvField, h]
  ext i hi
  interval_cases i <;> simp

/-- No opcode has two rows (R75): decoding is unambiguous. -/
theorem opcodeTable_pairwise : opcodeTable.Pairwise fun a b => a.op ≠ b.op := by decide

theorem opcodeTable_length : opcodeTable.length = 41 := by decide

/-! ### The word of each format meets its mask (R72) -/

theorem packWord_and (op : BitVec 8) (rd rs1 rs2 : RegIdx) (imm : Imm8) (m : Word32) :
    packWord op rd rs1 rs2 imm &&& m =
      op.setWidth 32 <<< 24 &&& m ||| (regBits rd).setWidth 32 <<< 21 &&& m ||| (regBits rs1).setWidth 32 <<< 18 &&& m |||
        (regBits rs2).setWidth 32 <<< 15 &&& m ||| imm.setWidth 32 &&& m := by
  ext i hi
  simp [packWord, Bool.and_or_distrib_right]

/-- Every mask keeps all of `op`. -/
theorem opBits_mask (f : Format) (op : BitVec 8) : op.setWidth 32 <<< 24 &&& f.mask = matchWord op := by
  cases f <;> revert op <;> decide +kernel

theorem rdBits_mask (r : RegIdx) (m : Word32) (h : m.extractLsb' 21 3 = 0) : (regBits r).setWidth 32 <<< 21 &&& m = 0 := by
  ext i hi
  have := congrArg (fun b => b.getLsbD (i - 21)) h
  simp at this ⊢
  grind

theorem rs1Bits_mask (r : RegIdx) (m : Word32) (h : m.extractLsb' 18 3 = 0) : (regBits r).setWidth 32 <<< 18 &&& m = 0 := by
  ext i hi
  have := congrArg (fun b => b.getLsbD (i - 18)) h
  simp at this ⊢
  grind

theorem rs2Bits_mask (r : RegIdx) (m : Word32) (h : m.extractLsb' 15 3 = 0) : (regBits r).setWidth 32 <<< 15 &&& m = 0 := by
  ext i hi
  have := congrArg (fun b => b.getLsbD (i - 15)) h
  simp at this ⊢
  grind

theorem immBits_mask (n : Imm8) (m : Word32) (h : m.extractLsb' 0 8 = 0) : n.setWidth 32 &&& m = 0 := by
  ext i hi
  have := congrArg (fun b => b.getLsbD i) h
  simp at this ⊢
  grind

/-- A packed word agrees with the mask of a format when each field it sets is one the format has. -/
theorem packWord_mask (f : Format) (op : BitVec 8) (rd rs1 rs2 : RegIdx) (imm : Imm8)
    (hd : rd = 0 ∨ f.mask.extractLsb' 21 3 = 0) (h1 : rs1 = 0 ∨ f.mask.extractLsb' 18 3 = 0)
    (h2 : rs2 = 0 ∨ f.mask.extractLsb' 15 3 = 0) (hi : imm = 0 ∨ f.mask.extractLsb' 0 8 = 0) :
    packWord op rd rs1 rs2 imm &&& f.mask = matchWord op := by
  have e1 : (regBits rd).setWidth 32 <<< 21 &&& f.mask = 0 := by
    rcases hd with rfl | h
    · cases f <;> decide
    · exact rdBits_mask _ _ h
  have e2 : (regBits rs1).setWidth 32 <<< 18 &&& f.mask = 0 := by
    rcases h1 with rfl | h
    · cases f <;> decide
    · exact rs1Bits_mask _ _ h
  have e3 : (regBits rs2).setWidth 32 <<< 15 &&& f.mask = 0 := by
    rcases h2 with rfl | h
    · cases f <;> decide
    · exact rs2Bits_mask _ _ h
  have e4 : imm.setWidth 32 &&& f.mask = 0 := by
    rcases hi with rfl | h
    · cases f <;> decide
    · exact immBits_mask _ _ h
  rw [packWord_and, opBits_mask, e1, e2, e3, e4]
  simp

/-- Decoding a packed word whose opcode has a row and whose other fields are zero. -/
theorem decode_packWord {op : BitVec 8} {rd rs1 rs2 : RegIdx} {imm : Imm8} {row : OpRow} (hrow : rowOf op = some row)
    (hmask : packWord op rd rs1 rs2 imm &&& row.format.mask = matchWord row.op) :
    decode (packWord op rd rs1 rs2 imm) = .ok (row.build rd rs1 rs2 imm) := by
  simp only [decode, opField_packWord, hrow, rdField_packWord, rs1Field_packWord, rs2Field_packWord, immField_packWord,
    if_pos hmask]

theorem decode_error_of_no_row {w : Word32} (h : rowOf (opField w) = none) : decode w = .error .illegalOpcode := by
  simp only [decode, h]

theorem decode_of_row {w : Word32} {row : OpRow} (h : rowOf (opField w) = some row) :
    decode w = if w &&& row.format.mask = matchWord row.op then
      .ok (row.build (rdField w) (rs1Field w) (rs2Field w) (immField w)) else .error .reservedField := by
  simp only [decode, h]

/-- The row of an opcode stands in the table and bears that opcode. -/
theorem rowOf_some {op : BitVec 8} {row : OpRow} (h : rowOf op = some row) : row ∈ opcodeTable ∧ row.op = op := by
  have h1 := List.find?_some h
  exact ⟨List.mem_of_find?_eq_some h, by simpa using h1⟩

theorem wordN_mask (op : BitVec 8) :
    Format.wordN op &&& Format.mask .N = matchWord op :=
  packWord_mask .N op _ _ _ _ (.inl rfl) (.inl rfl) (.inl rfl) (.inl rfl)

theorem wordD_mask (op : BitVec 8) (rd : RegIdx) :
    Format.wordD op rd &&& Format.mask .D = matchWord op :=
  packWord_mask .D op _ _ _ _ (.inr rfl) (.inl rfl) (.inl rfl) (.inl rfl)

theorem wordS_mask (op : BitVec 8) (rs1 : RegIdx) :
    Format.wordS op rs1 &&& Format.mask .S = matchWord op :=
  packWord_mask .S op _ _ _ _ (.inl rfl) (.inr rfl) (.inl rfl) (.inl rfl)

theorem wordDS_mask (op : BitVec 8) (rd rs1 : RegIdx) :
    Format.wordDS op rd rs1 &&& Format.mask .DS = matchWord op :=
  packWord_mask .DS op _ _ _ _ (.inr rfl) (.inr rfl) (.inl rfl) (.inl rfl)

theorem wordDSS_mask (op : BitVec 8) (rd rs1 rs2 : RegIdx) :
    Format.wordDSS op rd rs1 rs2 &&& Format.mask .DSS = matchWord op :=
  packWord_mask .DSS op _ _ _ _ (.inr rfl) (.inr rfl) (.inr rfl) (.inl rfl)

theorem wordDSI_mask (op : BitVec 8) (rd rs1 : RegIdx) (imm : Imm8) :
    Format.wordDSI op rd rs1 imm &&& Format.mask .DSI = matchWord op :=
  packWord_mask .DSI op _ _ _ _ (.inr rfl) (.inr rfl) (.inl rfl) (.inr rfl)

theorem wordDI_mask (op : BitVec 8) (rd : RegIdx) (imm : Imm8) :
    Format.wordDI op rd imm &&& Format.mask .DI = matchWord op :=
  packWord_mask .DI op _ _ _ _ (.inr rfl) (.inl rfl) (.inl rfl) (.inr rfl)

theorem wordSS_mask (op : BitVec 8) (rs1 rs2 : RegIdx) :
    Format.wordSS op rs1 rs2 &&& Format.mask .SS = matchWord op :=
  packWord_mask .SS op _ _ _ _ (.inl rfl) (.inr rfl) (.inr rfl) (.inl rfl)

end Sys2Proof
end

