-- ==== Sys2Proof/Laws/State.lean ====
section
/-! SUPPORT. One lemma per field per update of the state, so that no proof unfolds a record update. -/

namespace Sys2Proof.Machine

/-! ### `setReg` -/

@[simp] theorem setReg_v (s : State) (r : RegIdx) (x : Block) : (s.setReg r x).v = s.v.set r x := rfl
@[simp] theorem setReg_rk (s : State) (r : RegIdx) (x : Block) : (s.setReg r x).rk = s.rk := rfl
@[simp] theorem setReg_kv (s : State) (r : RegIdx) (x : Block) : (s.setReg r x).kv = s.kv := rfl
@[simp] theorem setReg_fault (s : State) (r : RegIdx) (x : Block) : (s.setReg r x).fault = s.fault := rfl
@[simp] theorem setReg_cause (s : State) (r : RegIdx) (x : Block) : (s.setReg r x).cause = s.cause := rfl
@[simp] theorem setReg_dout (s : State) (r : RegIdx) (x : Block) : (s.setReg r x).dout = s.dout := rfl
@[simp] theorem setReg_din (s : State) (r : RegIdx) (x : Block) : (s.setReg r x).din = s.din := rfl
@[simp] theorem setReg_inbox (s : State) (r : RegIdx) (x : Block) : (s.setReg r x).inbox = s.inbox := rfl

/-! ### `setDout` -/

@[simp] theorem setDout_v (s : State) (x : Block) : (s.setDout x).v = s.v := rfl
@[simp] theorem setDout_rk (s : State) (x : Block) : (s.setDout x).rk = s.rk := rfl
@[simp] theorem setDout_kv (s : State) (x : Block) : (s.setDout x).kv = s.kv := rfl
@[simp] theorem setDout_fault (s : State) (x : Block) : (s.setDout x).fault = s.fault := rfl
@[simp] theorem setDout_cause (s : State) (x : Block) : (s.setDout x).cause = s.cause := rfl
@[simp] theorem setDout_dout (s : State) (x : Block) : (s.setDout x).dout = x := rfl
@[simp] theorem setDout_din (s : State) (x : Block) : (s.setDout x).din = s.din := rfl
@[simp] theorem setDout_inbox (s : State) (x : Block) : (s.setDout x).inbox = s.inbox := rfl

/-! ### `loadSchedule` -/

@[simp] theorem loadSchedule_v (s : State) (w : Vector Word32 Config.nRk) : (s.loadSchedule w).v = s.v := rfl
@[simp] theorem loadSchedule_rk (s : State) (w : Vector Word32 Config.nRk) : (s.loadSchedule w).rk = w := rfl
@[simp] theorem loadSchedule_kv (s : State) (w : Vector Word32 Config.nRk) : (s.loadSchedule w).kv = true := rfl
@[simp] theorem loadSchedule_fault (s : State) (w : Vector Word32 Config.nRk) : (s.loadSchedule w).fault = s.fault := rfl
@[simp] theorem loadSchedule_cause (s : State) (w : Vector Word32 Config.nRk) : (s.loadSchedule w).cause = s.cause := rfl
@[simp] theorem loadSchedule_dout (s : State) (w : Vector Word32 Config.nRk) : (s.loadSchedule w).dout = s.dout := rfl
@[simp] theorem loadSchedule_din (s : State) (w : Vector Word32 Config.nRk) : (s.loadSchedule w).din = s.din := rfl
@[simp] theorem loadSchedule_inbox (s : State) (w : Vector Word32 Config.nRk) : (s.loadSchedule w).inbox = s.inbox := rfl

/-! ### `recordFault` -/

@[simp] theorem recordFault_v (s : State) (c : FaultCause) : (s.recordFault c).v = s.v := rfl
@[simp] theorem recordFault_rk (s : State) (c : FaultCause) : (s.recordFault c).rk = s.rk := rfl
@[simp] theorem recordFault_kv (s : State) (c : FaultCause) : (s.recordFault c).kv = s.kv := rfl
@[simp] theorem recordFault_fault (s : State) (c : FaultCause) : (s.recordFault c).fault = true := rfl
@[simp] theorem recordFault_cause (s : State) (c : FaultCause) : (s.recordFault c).cause = causeCode c := rfl
@[simp] theorem recordFault_dout (s : State) (c : FaultCause) : (s.recordFault c).dout = s.dout := rfl
@[simp] theorem recordFault_din (s : State) (c : FaultCause) : (s.recordFault c).din = s.din := rfl
@[simp] theorem recordFault_inbox (s : State) (c : FaultCause) : (s.recordFault c).inbox = s.inbox := rfl

/-! ### `resetCore` -/

@[simp] theorem resetCore_v (s : State) : (s.resetCore).v = Vector.replicate Config.nReg 0 := rfl
@[simp] theorem resetCore_rk (s : State) : (s.resetCore).rk = Vector.replicate Config.nRk 0 := rfl
@[simp] theorem resetCore_kv (s : State) : (s.resetCore).kv = false := rfl
@[simp] theorem resetCore_fault (s : State) : (s.resetCore).fault = false := rfl
@[simp] theorem resetCore_cause (s : State) : (s.resetCore).cause = 0 := rfl
@[simp] theorem resetCore_dout (s : State) : (s.resetCore).dout = 0 := rfl
@[simp] theorem resetCore_din (s : State) : (s.resetCore).din = s.din := rfl
@[simp] theorem resetCore_inbox (s : State) : (s.resetCore).inbox = s.inbox := rfl

/-! ### `takeMove` -/

@[simp] theorem takeMove_v (s : State) (rest : List HostMove) : (s.takeMove rest).v = s.v := rfl
@[simp] theorem takeMove_rk (s : State) (rest : List HostMove) : (s.takeMove rest).rk = s.rk := rfl
@[simp] theorem takeMove_kv (s : State) (rest : List HostMove) : (s.takeMove rest).kv = s.kv := rfl
@[simp] theorem takeMove_fault (s : State) (rest : List HostMove) : (s.takeMove rest).fault = s.fault := rfl
@[simp] theorem takeMove_cause (s : State) (rest : List HostMove) : (s.takeMove rest).cause = s.cause := rfl
@[simp] theorem takeMove_dout (s : State) (rest : List HostMove) : (s.takeMove rest).dout = s.dout := rfl
@[simp] theorem takeMove_din (s : State) (rest : List HostMove) : (s.takeMove rest).din = s.din := rfl
@[simp] theorem takeMove_inbox (s : State) (rest : List HostMove) : (s.takeMove rest).inbox = rest := rfl

/-! ### `setDin` -/

@[simp] theorem setDin_v (s : State) (d : Block) : (s.setDin d).v = s.v := rfl
@[simp] theorem setDin_rk (s : State) (d : Block) : (s.setDin d).rk = s.rk := rfl
@[simp] theorem setDin_kv (s : State) (d : Block) : (s.setDin d).kv = s.kv := rfl
@[simp] theorem setDin_fault (s : State) (d : Block) : (s.setDin d).fault = s.fault := rfl
@[simp] theorem setDin_cause (s : State) (d : Block) : (s.setDin d).cause = s.cause := rfl
@[simp] theorem setDin_dout (s : State) (d : Block) : (s.setDin d).dout = s.dout := rfl
@[simp] theorem setDin_din (s : State) (d : Block) : (s.setDin d).din = d := rfl
@[simp] theorem setDin_inbox (s : State) (d : Block) : (s.setDin d).inbox = s.inbox := rfl

/-! ### `present` -/

@[simp] theorem present_v (s : State) (m : List HostMove) : (s.present m).v = s.v := rfl
@[simp] theorem present_rk (s : State) (m : List HostMove) : (s.present m).rk = s.rk := rfl
@[simp] theorem present_kv (s : State) (m : List HostMove) : (s.present m).kv = s.kv := rfl
@[simp] theorem present_fault (s : State) (m : List HostMove) : (s.present m).fault = s.fault := rfl
@[simp] theorem present_cause (s : State) (m : List HostMove) : (s.present m).cause = s.cause := rfl
@[simp] theorem present_dout (s : State) (m : List HostMove) : (s.present m).dout = s.dout := rfl
@[simp] theorem present_din (s : State) (m : List HostMove) : (s.present m).din = s.din := rfl
@[simp] theorem present_inbox (s : State) (m : List HostMove) : (s.present m).inbox = m ++ s.inbox := rfl

/-! ### Reset (10_state.md R47) -/

@[simp] theorem reset_kv : State.reset.kv = false := rfl
@[simp] theorem reset_fault : State.reset.fault = false := rfl
@[simp] theorem reset_cause : State.reset.cause = 0 := rfl
@[simp] theorem reset_dout : State.reset.dout = 0 := rfl
@[simp] theorem reset_din : State.reset.din = 0 := rfl
@[simp] theorem reset_inbox : State.reset.inbox = [] := rfl
@[simp] theorem reset_rk : State.reset.rk = Vector.replicate Config.nRk 0 := rfl

/-! ### Reading a register -/

@[simp] theorem reg_setReg_same (s : State) (r : RegIdx) (x : Block) : (s.setReg r x).reg r = x := by
  simp [State.reg, State.setReg]

theorem reg_setReg_of_ne (s : State) {r q : RegIdx} (x : Block) (h : q ≠ r) : (s.setReg r x).reg q = s.reg q := by
  have h' : r.val ≠ q.val := fun e => h (Fin.ext e.symm)
  simp [State.reg, State.setReg, h']

theorem reg_setReg (s : State) (r q : RegIdx) (x : Block) :
    (s.setReg r x).reg q = if q = r then x else s.reg q := by
  split
  · next h => simp [h]
  · next h => exact reg_setReg_of_ne s x h

@[simp] theorem reg_setDout (s : State) (x : Block) (q : RegIdx) : (s.setDout x).reg q = s.reg q := rfl
@[simp] theorem reg_loadSchedule (s : State) (w : Vector Word32 Config.nRk) (q : RegIdx) :
    (s.loadSchedule w).reg q = s.reg q := rfl
@[simp] theorem reg_recordFault (s : State) (c : FaultCause) (q : RegIdx) : (s.recordFault c).reg q = s.reg q := rfl
@[simp] theorem reg_takeMove (s : State) (rest : List HostMove) (q : RegIdx) : (s.takeMove rest).reg q = s.reg q := rfl
@[simp] theorem reg_setDin (s : State) (d : Block) (q : RegIdx) : (s.setDin d).reg q = s.reg q := rfl
@[simp] theorem reg_present (s : State) (m : List HostMove) (q : RegIdx) : (s.present m).reg q = s.reg q := rfl

@[simp] theorem reg_resetCore (s : State) (q : RegIdx) : s.resetCore.reg q = 0 := by
  simp [State.reg]

@[simp] theorem reg_reset (q : RegIdx) : State.reset.reg q = 0 := reg_resetCore State.reset q

end Sys2Proof.Machine
end

