-- ==== Sys2Proof/Laws/Ops.lean ====
section
/-! SUPPORT. What each shared operation can answer, said once. -/

namespace Sys2Proof.Machine

/-! ### Guards and writes -/

@[simp] theorem guardImm_true (s : State) (k : Result) : guardImm true s k = k := rfl

@[simp] theorem guardImm_false (s : State) (k : Result) : guardImm false s k = raise .immRange s := rfl

theorem guardKey_of_kv {s : State} (h : s.kv = true) (k : Result) : guardKey s k = k := by simp [guardKey, h]

theorem guardKey_of_not_kv {s : State} (h : s.kv = false) (k : Result) : guardKey s k = raise .keyNotValid s := by
  simp [guardKey, h]

@[simp] theorem raise_eq (c : FaultCause) (s : State) : raise c s = .next (s.recordFault c) := rfl

@[simp] theorem writeBlock_eq (rd : RegIdx) (x : Block) (s : State) : writeBlock rd x s = .next (s.setReg rd x) := rfl

@[simp] theorem writeWord_eq (rd : RegIdx) (w : Word32) (s : State) :
    writeWord rd w s = .next (s.setReg rd (w.setWidth 128)) := rfl

@[simp] theorem writeByte_eq (rd : RegIdx) (e : Byte) (s : State) :
    writeByte rd e s = .next (s.setReg rd (e.setWidth 128)) := rfl

/-! ### The port -/

theorem issueWord_faulted {s : State} (h : s.fault = true) (w : Word32) : issueWord w s = .next s := by
  simp [issueWord, h]

theorem issueWord_error {s : State} {w : Word32} {c : FaultCause} (h : s.fault = false) (hd : decode w = .error c) :
    issueWord w s = .next (s.recordFault c) := by
  simp [issueWord, h, hd]

theorem issueWord_ok {s : State} {w : Word32} {i : Instr} (h : s.fault = false) (hd : decode w = .ok i) :
    issueWord w s = exec i s := by
  simp [issueWord, h, hd]

/-- With no move of the host the state is held. -/
theorem step_idle {s : State} (h : s.inbox = []) : step s = .next s := by
  simp [step, stepHost, h]

theorem step_reset {s : State} {rest : List HostMove} (h : s.inbox = .reset :: rest) :
    step s = .next (s.takeMove rest).resetCore := by
  simp [step, stepHost, takeHostMove, h]

theorem step_command {s : State} {w : Word32} {d : Block} {rest : List HostMove} (h : s.inbox = .command w d :: rest) :
    step s = issueWord w ((s.takeMove rest).setDin d) := by
  simp [step, stepHost, takeHostMove, h]

/-- Everything one step can do. -/
theorem step_cases (s : State) :
    (s.inbox = [] ∧ step s = .next s) ∨
    (∃ rest, s.inbox = .reset :: rest ∧ step s = .next (s.takeMove rest).resetCore) ∨
    (∃ w d rest, s.inbox = .command w d :: rest ∧ s.fault = true ∧
      step s = .next ((s.takeMove rest).setDin d)) ∨
    (∃ w d rest c, s.inbox = .command w d :: rest ∧ s.fault = false ∧ decode w = .error c ∧
      step s = .next (((s.takeMove rest).setDin d).recordFault c)) ∨
    (∃ w d rest i, s.inbox = .command w d :: rest ∧ s.fault = false ∧ decode w = .ok i ∧
      step s = exec i ((s.takeMove rest).setDin d)) := by
  rcases hs : s.inbox with _ | ⟨m, rest⟩
  · exact .inl ⟨rfl, step_idle hs⟩
  · cases m with
    | reset => exact .inr (.inl ⟨rest, rfl, step_reset hs⟩)
    | command w d =>
      have hstep := step_command hs
      cases hf : s.fault with
      | true => exact .inr (.inr (.inl ⟨w, d, rest, rfl, rfl, by rw [hstep, issueWord_faulted (by simpa using hf)]⟩))
      | false =>
        cases hd : decode w with
        | error c =>
          exact .inr (.inr (.inr (.inl ⟨w, d, rest, c, rfl, rfl, hd, by
            rw [hstep, issueWord_error (by simpa using hf) hd]⟩)))
        | ok i =>
          exact .inr (.inr (.inr (.inr ⟨w, d, rest, i, rfl, rfl, hd, by
            rw [hstep, issueWord_ok (by simpa using hf) hd]⟩)))

/-! ### Everything one command can do -/

/-- The effect of a command whose rule has passed its guards, or the fault of the guard it failed. -/
theorem exec_cases (i : Instr) (s : State) :
    (∃ rd x, i.dest = some rd ∧ i.wellFormed = true ∧ (i.needsKey = true → s.kv = true) ∧
      exec i s = .next (s.setReg rd x)) ∨
    (i = .sysNop ∧ exec i s = .next s) ∨
    (∃ rs1, i = .sysSt rs1 ∧ exec i s = .next (s.setDout (s.reg rs1))) ∨
    (∃ rs1 rs2, i = .aesKexp rs1 rs2 ∧ exec i s = .next (s.loadSchedule (keyExpand (s.reg rs1) (s.reg rs2)))) ∨
    (i.wellFormed = false ∧ exec i s = .next (s.recordFault .immRange)) ∨
    (i.wellFormed = true ∧ i.needsKey = true ∧ s.kv = false ∧ exec i s = .next (s.recordFault .keyNotValid)) := by
  cases i with
  | sysNop => exact .inr (.inl ⟨rfl, rfl⟩)
  | sysSt rs1 => exact .inr (.inr (.inl ⟨rs1, rfl, rfl⟩))
  | aesKexp rs1 rs2 => exact .inr (.inr (.inr (.inl ⟨rs1, rs2, rfl, rfl⟩)))
  | gfvRcon rd rs1 j =>
    cases h : rconIndexLegal j
    · exact .inr (.inr (.inr (.inr (.inl ⟨h, by simp [exec, execGfvRcon, h]⟩))))
    · exact .inl ⟨rd, _, rfl, h, nofun, by simp [exec, execGfvRcon, h]; rfl⟩
  | aesRkrd rd r =>
    cases h : keyIndexLegal r
    · exact .inr (.inr (.inr (.inr (.inl ⟨h, by simp [exec, execAesRkrd, h]⟩))))
    · cases hk : s.kv
      · exact .inr (.inr (.inr (.inr (.inr ⟨h, rfl, rfl, by simp [exec, execAesRkrd, h, guardKey, hk]⟩))))
      · exact .inl ⟨rd, _, rfl, h, fun _ => rfl, by simp [exec, execAesRkrd, h, guardKey, hk]; rfl⟩
  | aesArk rd rs1 r =>
    cases h : keyIndexLegal r
    · exact .inr (.inr (.inr (.inr (.inl ⟨h, by simp [exec, execAesArk, h]⟩))))
    · cases hk : s.kv
      · exact .inr (.inr (.inr (.inr (.inr ⟨h, rfl, rfl, by simp [exec, execAesArk, h, guardKey, hk]⟩))))
      · exact .inl ⟨rd, _, rfl, h, fun _ => rfl, by simp [exec, execAesArk, h, guardKey, hk]; rfl⟩
  | aesEncr rd rs1 r =>
    cases h : fullRoundLegal r
    · exact .inr (.inr (.inr (.inr (.inl ⟨h, by simp [exec, execAesEncr, h]⟩))))
    · cases hk : s.kv
      · exact .inr (.inr (.inr (.inr (.inr ⟨h, rfl, rfl, by simp [exec, execAesEncr, h, guardKey, hk]⟩))))
      · exact .inl ⟨rd, _, rfl, h, fun _ => rfl, by simp [exec, execAesEncr, h, guardKey, hk]; rfl⟩
  | aesDecr rd rs1 r =>
    cases h : fullRoundLegal r
    · exact .inr (.inr (.inr (.inr (.inl ⟨h, by simp [exec, execAesDecr, h]⟩))))
    · cases hk : s.kv
      · exact .inr (.inr (.inr (.inr (.inr ⟨h, rfl, rfl, by simp [exec, execAesDecr, h, guardKey, hk]⟩))))
      · exact .inl ⟨rd, _, rfl, h, fun _ => rfl, by simp [exec, execAesDecr, h, guardKey, hk]; rfl⟩
  | aesEncl rd rs1 =>
    cases hk : s.kv
    · exact .inr (.inr (.inr (.inr (.inr ⟨rfl, rfl, rfl, by simp [exec, execAesEncl, guardKey, hk]⟩))))
    · exact .inl ⟨rd, _, rfl, rfl, fun _ => rfl, by simp [exec, execAesEncl, guardKey, hk]; rfl⟩
  | aesEnc rd rs1 =>
    cases hk : s.kv
    · exact .inr (.inr (.inr (.inr (.inr ⟨rfl, rfl, rfl, by simp [exec, execAesEnc, guardKey, hk]⟩))))
    · exact .inl ⟨rd, _, rfl, rfl, fun _ => rfl, by simp [exec, execAesEnc, guardKey, hk]; rfl⟩
  | aesDecf rd rs1 =>
    cases hk : s.kv
    · exact .inr (.inr (.inr (.inr (.inr ⟨rfl, rfl, rfl, by simp [exec, execAesDecf, guardKey, hk]⟩))))
    · exact .inl ⟨rd, _, rfl, rfl, fun _ => rfl, by simp [exec, execAesDecf, guardKey, hk]; rfl⟩
  | aesDec rd rs1 =>
    cases hk : s.kv
    · exact .inr (.inr (.inr (.inr (.inr ⟨rfl, rfl, rfl, by simp [exec, execAesDec, guardKey, hk]⟩))))
    · exact .inl ⟨rd, _, rfl, rfl, fun _ => rfl, by simp [exec, execAesDec, guardKey, hk]; rfl⟩
  | sysLd rd | sysMov rd _ | gf8Add rd _ _ | gf8Xt rd _ | gf8Mul rd _ _ | gf8Pow rd _ _ | gf8Inv rd _ | gf8Sbox rd _
  | gf8Isbox rd _ | gfvAdd rd _ _ | gfvRotl rd _ _ | gfvDot rd _ _ | gfvSubw rd _ | gfmMulv rd _ _ | gfqAdd rd _ _
  | gfqXt rd _ | gfqMul rd _ _ | gfqDot rd _ _ | aesSub rd _ | aesShr rd _ | aesMix rd _ | aesIsub rd _ | aesIshr rd _
  | aesImix rd _ | ctrInc rd _ | pvStep rd _ _ | sivClr7 rd _ | sivSet7 rd _ | sivCmp rd _ _ =>
    exact .inl ⟨rd, _, rfl, rfl, nofun, rfl⟩

end Sys2Proof.Machine
end

