-- ==== Sys2Proof/Laws/PerInstr.lean ====
section
/-! SUPPORT. The family `EncodeMask`: the word of every command carries the opcode of the row of R75 that bears its
mnemonic, and is zero in the must-be-zero fields of that row's format (R72). -/

namespace Sys2Proof.Laws.EncodeMask

def Statement (i : Instr) : Prop :=
  ∃ row, rowOf (opField (encode i)) = some row ∧ row.mnemonic = i.mnemonic ∧
    encode i &&& row.format.mask = matchWord row.op

theorem of_row {i : Instr} {row : OpRow} (op : BitVec 8) (hop : opField (encode i) = op) (hrow : rowOf op = some row)
    (hm : row.mnemonic = i.mnemonic) (hmask : encode i &&& row.format.mask = matchWord row.op) : Statement i :=
  ⟨row, by rw [hop]; exact hrow, hm, hmask⟩

theorem sysNop : Statement .sysNop :=
  of_row 0x00#8 (opField_packWord 0x00#8 0 0 0 0) rfl rfl (wordN_mask 0x00#8)

theorem sysLd (rd : RegIdx) : Statement (.sysLd rd) :=
  of_row 0x01#8 (opField_packWord 0x01#8 rd 0 0 0) rfl rfl (wordD_mask 0x01#8 rd)

theorem sysSt (rs1 : RegIdx) : Statement (.sysSt rs1) :=
  of_row 0x02#8 (opField_packWord 0x02#8 0 rs1 0 0) rfl rfl (wordS_mask 0x02#8 rs1)

theorem sysMov (rd rs1 : RegIdx) : Statement (.sysMov rd rs1) :=
  of_row 0x03#8 (opField_packWord 0x03#8 rd rs1 0 0) rfl rfl (wordDS_mask 0x03#8 rd rs1)

theorem gf8Add (rd rs1 rs2 : RegIdx) : Statement (.gf8Add rd rs1 rs2) :=
  of_row 0x10#8 (opField_packWord 0x10#8 rd rs1 rs2 0) rfl rfl (wordDSS_mask 0x10#8 rd rs1 rs2)

theorem gf8Xt (rd rs1 : RegIdx) : Statement (.gf8Xt rd rs1) :=
  of_row 0x11#8 (opField_packWord 0x11#8 rd rs1 0 0) rfl rfl (wordDS_mask 0x11#8 rd rs1)

theorem gf8Mul (rd rs1 rs2 : RegIdx) : Statement (.gf8Mul rd rs1 rs2) :=
  of_row 0x12#8 (opField_packWord 0x12#8 rd rs1 rs2 0) rfl rfl (wordDSS_mask 0x12#8 rd rs1 rs2)

theorem gf8Pow (rd rs1 : RegIdx) (imm : Imm8) : Statement (.gf8Pow rd rs1 imm) :=
  of_row 0x13#8 (opField_packWord 0x13#8 rd rs1 0 imm) rfl rfl (wordDSI_mask 0x13#8 rd rs1 imm)

theorem gf8Inv (rd rs1 : RegIdx) : Statement (.gf8Inv rd rs1) :=
  of_row 0x14#8 (opField_packWord 0x14#8 rd rs1 0 0) rfl rfl (wordDS_mask 0x14#8 rd rs1)

theorem gf8Sbox (rd rs1 : RegIdx) : Statement (.gf8Sbox rd rs1) :=
  of_row 0x15#8 (opField_packWord 0x15#8 rd rs1 0 0) rfl rfl (wordDS_mask 0x15#8 rd rs1)

theorem gf8Isbox (rd rs1 : RegIdx) : Statement (.gf8Isbox rd rs1) :=
  of_row 0x16#8 (opField_packWord 0x16#8 rd rs1 0 0) rfl rfl (wordDS_mask 0x16#8 rd rs1)

theorem gfvAdd (rd rs1 rs2 : RegIdx) : Statement (.gfvAdd rd rs1 rs2) :=
  of_row 0x20#8 (opField_packWord 0x20#8 rd rs1 rs2 0) rfl rfl (wordDSS_mask 0x20#8 rd rs1 rs2)

theorem gfvRotl (rd rs1 : RegIdx) (imm : Imm8) : Statement (.gfvRotl rd rs1 imm) :=
  of_row 0x21#8 (opField_packWord 0x21#8 rd rs1 0 imm) rfl rfl (wordDSI_mask 0x21#8 rd rs1 imm)

theorem gfvDot (rd rs1 rs2 : RegIdx) : Statement (.gfvDot rd rs1 rs2) :=
  of_row 0x22#8 (opField_packWord 0x22#8 rd rs1 rs2 0) rfl rfl (wordDSS_mask 0x22#8 rd rs1 rs2)

theorem gfvSubw (rd rs1 : RegIdx) : Statement (.gfvSubw rd rs1) :=
  of_row 0x23#8 (opField_packWord 0x23#8 rd rs1 0 0) rfl rfl (wordDS_mask 0x23#8 rd rs1)

theorem gfvRcon (rd rs1 : RegIdx) (imm : Imm8) : Statement (.gfvRcon rd rs1 imm) :=
  of_row 0x24#8 (opField_packWord 0x24#8 rd rs1 0 imm) rfl rfl (wordDSI_mask 0x24#8 rd rs1 imm)

theorem gfmMulv (rd rs1 rs2 : RegIdx) : Statement (.gfmMulv rd rs1 rs2) :=
  of_row 0x25#8 (opField_packWord 0x25#8 rd rs1 rs2 0) rfl rfl (wordDSS_mask 0x25#8 rd rs1 rs2)

theorem gfqAdd (rd rs1 rs2 : RegIdx) : Statement (.gfqAdd rd rs1 rs2) :=
  of_row 0x30#8 (opField_packWord 0x30#8 rd rs1 rs2 0) rfl rfl (wordDSS_mask 0x30#8 rd rs1 rs2)

theorem gfqXt (rd rs1 : RegIdx) : Statement (.gfqXt rd rs1) :=
  of_row 0x31#8 (opField_packWord 0x31#8 rd rs1 0 0) rfl rfl (wordDS_mask 0x31#8 rd rs1)

theorem gfqMul (rd rs1 rs2 : RegIdx) : Statement (.gfqMul rd rs1 rs2) :=
  of_row 0x32#8 (opField_packWord 0x32#8 rd rs1 rs2 0) rfl rfl (wordDSS_mask 0x32#8 rd rs1 rs2)

theorem gfqDot (rd rs1 rs2 : RegIdx) : Statement (.gfqDot rd rs1 rs2) :=
  of_row 0x33#8 (opField_packWord 0x33#8 rd rs1 rs2 0) rfl rfl (wordDSS_mask 0x33#8 rd rs1 rs2)

theorem aesKexp (rs1 rs2 : RegIdx) : Statement (.aesKexp rs1 rs2) :=
  of_row 0x40#8 (opField_packWord 0x40#8 0 rs1 rs2 0) rfl rfl (wordSS_mask 0x40#8 rs1 rs2)

theorem aesRkrd (rd : RegIdx) (imm : Imm8) : Statement (.aesRkrd rd imm) :=
  of_row 0x41#8 (opField_packWord 0x41#8 rd 0 0 imm) rfl rfl (wordDI_mask 0x41#8 rd imm)

theorem aesSub (rd rs1 : RegIdx) : Statement (.aesSub rd rs1) :=
  of_row 0x50#8 (opField_packWord 0x50#8 rd rs1 0 0) rfl rfl (wordDS_mask 0x50#8 rd rs1)

theorem aesShr (rd rs1 : RegIdx) : Statement (.aesShr rd rs1) :=
  of_row 0x51#8 (opField_packWord 0x51#8 rd rs1 0 0) rfl rfl (wordDS_mask 0x51#8 rd rs1)

theorem aesMix (rd rs1 : RegIdx) : Statement (.aesMix rd rs1) :=
  of_row 0x52#8 (opField_packWord 0x52#8 rd rs1 0 0) rfl rfl (wordDS_mask 0x52#8 rd rs1)

theorem aesArk (rd rs1 : RegIdx) (imm : Imm8) : Statement (.aesArk rd rs1 imm) :=
  of_row 0x53#8 (opField_packWord 0x53#8 rd rs1 0 imm) rfl rfl (wordDSI_mask 0x53#8 rd rs1 imm)

theorem aesEncr (rd rs1 : RegIdx) (imm : Imm8) : Statement (.aesEncr rd rs1 imm) :=
  of_row 0x54#8 (opField_packWord 0x54#8 rd rs1 0 imm) rfl rfl (wordDSI_mask 0x54#8 rd rs1 imm)

theorem aesEncl (rd rs1 : RegIdx) : Statement (.aesEncl rd rs1) :=
  of_row 0x55#8 (opField_packWord 0x55#8 rd rs1 0 0) rfl rfl (wordDS_mask 0x55#8 rd rs1)

theorem aesEnc (rd rs1 : RegIdx) : Statement (.aesEnc rd rs1) :=
  of_row 0x56#8 (opField_packWord 0x56#8 rd rs1 0 0) rfl rfl (wordDS_mask 0x56#8 rd rs1)

theorem aesIsub (rd rs1 : RegIdx) : Statement (.aesIsub rd rs1) :=
  of_row 0x60#8 (opField_packWord 0x60#8 rd rs1 0 0) rfl rfl (wordDS_mask 0x60#8 rd rs1)

theorem aesIshr (rd rs1 : RegIdx) : Statement (.aesIshr rd rs1) :=
  of_row 0x61#8 (opField_packWord 0x61#8 rd rs1 0 0) rfl rfl (wordDS_mask 0x61#8 rd rs1)

theorem aesImix (rd rs1 : RegIdx) : Statement (.aesImix rd rs1) :=
  of_row 0x62#8 (opField_packWord 0x62#8 rd rs1 0 0) rfl rfl (wordDS_mask 0x62#8 rd rs1)

theorem aesDecr (rd rs1 : RegIdx) (imm : Imm8) : Statement (.aesDecr rd rs1 imm) :=
  of_row 0x63#8 (opField_packWord 0x63#8 rd rs1 0 imm) rfl rfl (wordDSI_mask 0x63#8 rd rs1 imm)

theorem aesDecf (rd rs1 : RegIdx) : Statement (.aesDecf rd rs1) :=
  of_row 0x64#8 (opField_packWord 0x64#8 rd rs1 0 0) rfl rfl (wordDS_mask 0x64#8 rd rs1)

theorem aesDec (rd rs1 : RegIdx) : Statement (.aesDec rd rs1) :=
  of_row 0x65#8 (opField_packWord 0x65#8 rd rs1 0 0) rfl rfl (wordDS_mask 0x65#8 rd rs1)

theorem ctrInc (rd rs1 : RegIdx) : Statement (.ctrInc rd rs1) :=
  of_row 0x70#8 (opField_packWord 0x70#8 rd rs1 0 0) rfl rfl (wordDS_mask 0x70#8 rd rs1)

theorem pvStep (rd rs1 rs2 : RegIdx) : Statement (.pvStep rd rs1 rs2) :=
  of_row 0x71#8 (opField_packWord 0x71#8 rd rs1 rs2 0) rfl rfl (wordDSS_mask 0x71#8 rd rs1 rs2)

theorem sivClr7 (rd rs1 : RegIdx) : Statement (.sivClr7 rd rs1) :=
  of_row 0x72#8 (opField_packWord 0x72#8 rd rs1 0 0) rfl rfl (wordDS_mask 0x72#8 rd rs1)

theorem sivSet7 (rd rs1 : RegIdx) : Statement (.sivSet7 rd rs1) :=
  of_row 0x73#8 (opField_packWord 0x73#8 rd rs1 0 0) rfl rfl (wordDS_mask 0x73#8 rd rs1)

theorem sivCmp (rd rs1 rs2 : RegIdx) : Statement (.sivCmp rd rs1 rs2) :=
  of_row 0x74#8 (opField_packWord 0x74#8 rd rs1 rs2 0) rfl rfl (wordDSS_mask 0x74#8 rd rs1 rs2)

end Sys2Proof.Laws.EncodeMask
end

