-- ==== Sys2Proof/Laws/Views.lean ====
section
/-! SUPPORT. The typed views of a block: taking apart what `vec`, `mat` and `matOf` put together, equality by rows and
bytes, and how the views go through XOR. -/

namespace Sys2Proof.Machine

/-! ### Taking apart -/

@[simp] theorem elem_vec_0 (a b c d : Byte) : elem (vec a b c d) 0 = a := by
  ext i hi; simp [elem, vec]; grind

@[simp] theorem elem_vec_1 (a b c d : Byte) : elem (vec a b c d) 1 = b := by
  ext i hi; simp [elem, vec]; grind

@[simp] theorem elem_vec_2 (a b c d : Byte) : elem (vec a b c d) 2 = c := by
  ext i hi; simp [elem, vec]; grind

@[simp] theorem elem_vec_3 (a b c d : Byte) : elem (vec a b c d) 3 = d := by
  ext i hi; simp [elem, vec]; grind

@[simp] theorem row_mat_0 (a b c d : Word32) : row (mat a b c d) 0 = a := by
  ext i hi; simp [row, mat]; grind

@[simp] theorem row_mat_1 (a b c d : Word32) : row (mat a b c d) 1 = b := by
  ext i hi; simp [row, mat]; grind

@[simp] theorem row_mat_2 (a b c d : Word32) : row (mat a b c d) 2 = c := by
  ext i hi; simp [row, mat]; grind

@[simp] theorem row_mat_3 (a b c d : Word32) : row (mat a b c d) 3 = d := by
  ext i hi; simp [row, mat]; grind

/-- A byte of a block is an element of its row. -/
theorem elem_row (v : Block) {i j : Nat} (hj : j < 4) : elem (row v i) j = byte v (4 * i + j) := by
  ext k hk; simp [elem, row, byte]; grind

theorem w0_eq_row (v : Block) : w0 v = row v 0 := rfl

theorem b0_eq_byte (v : Block) : b0 v = byte v 0 := rfl

/-! ### Putting together, and equality -/

theorem vec_elem (w : Word32) : vec (elem w 0) (elem w 1) (elem w 2) (elem w 3) = w := by
  ext i hi; simp [elem, vec]; grind

theorem mat_row (v : Block) : mat (row v 0) (row v 1) (row v 2) (row v 3) = v := by
  ext i hi; simp [row, mat]; grind

theorem word_ext {u w : Word32} (h : ∀ j < 4, elem u j = elem w j) : u = w := by
  rw [← vec_elem u, ← vec_elem w, h 0 (by omega), h 1 (by omega), h 2 (by omega), h 3 (by omega)]

theorem block_ext_row {u v : Block} (h : ∀ i < 4, row u i = row v i) : u = v := by
  rw [← mat_row u, ← mat_row v, h 0 (by omega), h 1 (by omega), h 2 (by omega), h 3 (by omega)]

theorem block_ext_byte {u v : Block} (h : ∀ k < 16, byte u k = byte v k) : u = v := by
  refine block_ext_row fun i hi => word_ext fun j hj => ?_
  rw [elem_row u hj, elem_row v hj]
  exact h _ (by omega)

/-! ### XOR -/

theorem elem_xor (u w : Word32) (j : Nat) : elem (u ^^^ w) j = elem u j ^^^ elem w j := by
  ext i hi; simp [elem]

theorem row_xor (u v : Block) (i : Nat) : row (u ^^^ v) i = row u i ^^^ row v i := by
  ext k hk; simp [row]

theorem byte_xor (u v : Block) (k : Nat) : byte (u ^^^ v) k = byte u k ^^^ byte v k := by
  ext i hi; simp [byte]

/-! ### Elementwise and rowwise maps -/

theorem elem_mapElems (f : Byte → Byte) (w : Word32) {j : Nat} (hj : j < 4) :
    elem (mapElems f w) j = f (elem w j) := by
  match j, hj with
  | 0, _ | 1, _ | 2, _ | 3, _ => simp [mapElems]

theorem row_mapRows (f : Word32 → Word32) (v : Block) {i : Nat} (hi : i < 4) : row (mapRows f v) i = f (row v i) := by
  match i, hi with
  | 0, _ | 1, _ | 2, _ | 3, _ => simp [mapRows]

theorem byte_matOf (f : Nat → Nat → Byte) {i j : Nat} (hi : i < 4) (hj : j < 4) :
    byte (matOf f) (4 * i + j) = f i j := by
  rw [← elem_row _ hj]
  match i, hi, j, hj with
  | 0, _, 0, _ | 0, _, 1, _ | 0, _, 2, _ | 0, _, 3, _ | 1, _, 0, _ | 1, _, 1, _ | 1, _, 2, _ | 1, _, 3, _
  | 2, _, 0, _ | 2, _, 1, _ | 2, _, 2, _ | 2, _, 3, _ | 3, _, 0, _ | 3, _, 1, _ | 3, _, 2, _ | 3, _, 3, _ =>
    simp [matOf]

/-- A function on every byte. -/
theorem byte_mapRows_mapElems (f : Byte → Byte) (v : Block) {k : Nat} (hk : k < 16) :
    byte (mapRows (mapElems f) v) k = f (byte v k) := by
  have h : k = 4 * (k / 4) + k % 4 := by omega
  rw [h, ← elem_row _ (by omega), ← elem_row _ (by omega), row_mapRows _ _ (by omega), elem_mapElems _ _ (by omega)]

/-! ### Narrow values in a register (10_state.md R22) -/

@[simp] theorem b0_setWidth (e : Byte) : b0 (e.setWidth 128) = e := by
  ext i hi; simp [b0]; grind

@[simp] theorem w0_setWidth (w : Word32) : w0 (w.setWidth 128) = w := by
  ext i hi; simp [w0]; grind

end Sys2Proof.Machine
end

