-- ==== Sys2Proof/Tests/Slice0.lean ====
section
/-! SUPPORT. Tests. Words are written out from 30_encoding.md (R71, R72, R75, R82) and from the examples of the command
rules; results are the spec's examples (the rule of each command, 44_aes_key.md R190, 95_test_vectors.md). At the end,
for every statement of Certificates/Slice0/Obligations.lean that has hypotheses, a witness that meets them. -/

namespace Sys2Proof.Machine

set_option Elab.async false

/-! ## Helpers -/

/-- A 16-byte block written as the spec writes it, byte 0 first. -/
def blockOf (h : BitVec 128) : Block :=
  (List.range 16).foldl (fun acc k => acc ||| (byte h (15 - k)).setWidth 128 <<< (8 * k)) 0

/-- The reset state with `V0`, `V1`, `V2` as given. -/
def testState (v0 v1 v2 : Block) : State := ((State.reset.setReg 0 v0).setReg 1 v1).setReg 2 v2

/-- The round keys of 95_test_vectors.md T30 (key `000102..1f`). -/
def t30RoundKeys : List (BitVec 128) :=
  [0x000102030405060708090a0b0c0d0e0f#128, 0x101112131415161718191a1b1c1d1e1f#128,
    0xa573c29fa176c498a97fce93a572c09c#128, 0x1651a8cd0244beda1a5da4c10640bade#128,
    0xae87dff00ff11b68a68ed5fb03fc1567#128, 0x6de1f1486fa54f9275f8eb5373b8518d#128,
    0xc656827fc9a799176f294cec6cd5598b#128, 0x3de23a75524775e727bf9eb45407cf39#128] ++
  [0x0bdc905fc27b0948ad5245a4c1871c2f#128, 0x45f5a66017b2d387300d4d33640a820a#128,
    0x7ccff71cbeb4fe5413e6bbf0d261a7df#128, 0xf01afafee7a82979d7a5644ab3afe640#128,
    0x2541fe719bf500258813bbd55a721c0a#128, 0x4e5a6699a9f24fe07e572baacdf8cdea#128,
    0x24fc79ccbf0979e9371ac23c6d68de36#128]

/-- A state with `V0` as given and the schedule of T30 in `RK`. -/
def keyedState (v0 : Block) : State :=
  (testState v0 0 0).loadSchedule
    (Vector.ofFn fun n => row (blockOf (t30RoundKeys.getD (n.val / 4) 0)) (n.val % 4))

/-- The state an outcome answers; every outcome of this machine answers one. -/
def stateOf (s : State) : Result → State
  | .next t => t
  | .fault _ => s
  | .refused _ => s

/-- The outcome answers a next state. -/
def isNext : Result → Bool
  | .next _ => true
  | .fault _ => false
  | .refused _ => false

theorem eq_next_of_isNext {s : State} {o : Result} (h : isNext o = true) : o = .next (stateOf s o) := by
  cases o <;> first | rfl | cases h

/-- The state after the command word is the host's next move and one step is taken. -/
def after (s : State) (word : Nat) : State := stateOf s (step (s.withFetchWord 32 word))

/-! ## Decoding: words written out from the spec's encoding -/

/-- 48_system.md R330 to R333, 30_encoding.md R82. -/
theorem test_decode_system :
    decode 0x00000000#32 = .ok (.sysNop) ∧ decode 0x01000000#32 = .ok (.sysLd 0) ∧
      decode 0x01E00000#32 = .ok (.sysLd 7) ∧ decode 0x02040000#32 = .ok (.sysSt 1) ∧
      decode 0x021C0000#32 = .ok (.sysSt 7) ∧ decode 0x03AC0000#32 = .ok (.sysMov 5 3) := by decide +kernel

/-- 41_gf256.md R110 to R116. -/
theorem test_decode_gf8 :
    decode 0x10408000#32 = .ok (.gf8Add 2 0 1) ∧ decode 0x11200000#32 = .ok (.gf8Xt 1 0) ∧
      decode 0x12408000#32 = .ok (.gf8Mul 2 0 1) ∧ decode 0x13200008#32 = .ok (.gf8Pow 1 0 8) ∧
      decode 0x14200000#32 = .ok (.gf8Inv 1 0) ∧ decode 0x15200000#32 = .ok (.gf8Sbox 1 0) ∧
      decode 0x16200000#32 = .ok (.gf8Isbox 1 0) := by decide +kernel

/-- 42_gf256_vec.md R130 to R135. -/
theorem test_decode_gfv :
    decode 0x20408000#32 = .ok (.gfvAdd 2 0 1) ∧ decode 0x21200001#32 = .ok (.gfvRotl 1 0 1) ∧
      decode 0x22408000#32 = .ok (.gfvDot 2 0 1) ∧ decode 0x23200000#32 = .ok (.gfvSubw 1 0) ∧
      decode 0x24200001#32 = .ok (.gfvRcon 1 0 1) ∧ decode 0x25408000#32 = .ok (.gfmMulv 2 0 1) := by decide +kernel

/-- 43_gf128.md R170 to R173. -/
theorem test_decode_gfq :
    decode 0x30408000#32 = .ok (.gfqAdd 2 0 1) ∧ decode 0x31200000#32 = .ok (.gfqXt 1 0) ∧
      decode 0x32408000#32 = .ok (.gfqMul 2 0 1) ∧ decode 0x33408000#32 = .ok (.gfqDot 2 0 1) := by decide +kernel

/-- 44_aes_key.md R190, R191. -/
theorem test_decode_key :
    decode 0x40008000#32 = .ok (.aesKexp 0 1) ∧ decode 0x41400002#32 = .ok (.aesRkrd 2 2) := by decide +kernel

/-- 45_aes_enc.md R230 to R236, 30_encoding.md R82. -/
theorem test_decode_enc :
    decode 0x50200000#32 = .ok (.aesSub 1 0) ∧ decode 0x51200000#32 = .ok (.aesShr 1 0) ∧
      decode 0x52200000#32 = .ok (.aesMix 1 0) ∧ decode 0x53200000#32 = .ok (.aesArk 1 0 0) ∧
      decode 0x54000001#32 = .ok (.aesEncr 0 0 1) ∧ decode 0x5424000D#32 = .ok (.aesEncr 1 1 13) ∧
      decode 0x55200000#32 = .ok (.aesEncl 1 0) ∧ decode 0x56200000#32 = .ok (.aesEnc 1 0) := by decide +kernel

/-- 46_aes_dec.md R270 to R275. -/
theorem test_decode_dec :
    decode 0x60200000#32 = .ok (.aesIsub 1 0) ∧ decode 0x61200000#32 = .ok (.aesIshr 1 0) ∧
      decode 0x62200000#32 = .ok (.aesImix 1 0) ∧ decode 0x6300000D#32 = .ok (.aesDecr 0 0 13) ∧
      decode 0x64200000#32 = .ok (.aesDecf 1 0) ∧ decode 0x65200000#32 = .ok (.aesDec 1 0) := by decide +kernel

/-- 47_ctr_polyval_siv.md R300 to R304, 30_encoding.md R82. -/
theorem test_decode_siv :
    decode 0x70000000#32 = .ok (.ctrInc 0 0) ∧ decode 0x71408000#32 = .ok (.pvStep 2 0 1) ∧
      decode 0x71728000#32 = .ok (.pvStep 3 4 5) ∧ decode 0x72200000#32 = .ok (.sivClr7 1 0) ∧
      decode 0x73200000#32 = .ok (.sivSet7 1 0) ∧ decode 0x74408000#32 = .ok (.sivCmp 2 0 1) := by decide +kernel

/-- 30_encoding.md R78: the ends of every range of illegal opcodes. -/
theorem test_decode_illegal :
    decode 0x04000000#32 = .error .illegalOpcode ∧ decode 0x0F000000#32 = .error .illegalOpcode ∧
      decode 0x17000000#32 = .error .illegalOpcode ∧ decode 0x1F000000#32 = .error .illegalOpcode ∧
      decode 0x26000000#32 = .error .illegalOpcode ∧ decode 0x2F000000#32 = .error .illegalOpcode ∧
      decode 0x34000000#32 = .error .illegalOpcode ∧ decode 0x3F000000#32 = .error .illegalOpcode ∧
      decode 0x42000000#32 = .error .illegalOpcode ∧ decode 0x4F000000#32 = .error .illegalOpcode ∧
      decode 0x57000000#32 = .error .illegalOpcode ∧ decode 0x5F000000#32 = .error .illegalOpcode ∧
      decode 0x66000000#32 = .error .illegalOpcode ∧ decode 0x6F000000#32 = .error .illegalOpcode ∧
      decode 0x75000000#32 = .error .illegalOpcode ∧
      decode 0xFF000000#32 = .error .illegalOpcode := by decide +kernel

/-- 60_exceptions.md R404: its four examples. -/
theorem test_decode_reserved :
    decode 0x00000001#32 = .error .reservedField ∧ decode 0x12408100#32 = .error .reservedField ∧
      decode 0x40208000#32 = .error .reservedField ∧
      decode 0x02200000#32 = .error .reservedField := by decide +kernel

/-- Table words: a shorter word has zeros above, an illegal one decodes to nothing. -/
theorem test_decode_table_word :
    decodeTableWord 32 0x71728000 = some (.pvStep 3 4 5) ∧ decodeTableWord 8 0 = some .sysNop ∧
      decodeTableWord 32 0xFFFFFFFF = none := by decide +kernel

/-- 30_encoding.md R80, R81. -/
theorem test_assembly :
    assembly (.aesEncr 1 1 13) = "AES.ENCR V1, V1, 13".toList ∧
      assemble "AES.ENCR V1, V1, 13 ; a round".toList = some (.aesEncr 1 1 13) ∧
      assemble "GFV.ROTL V1, V0, 0xff".toList = some (.gfvRotl 1 0 255) ∧
      assemble "GFV.ROTW V1, V0".toList = some (.gfvRotl 1 0 1) ∧
      assemble "AES.ARK0 V2, V3".toList = some (.aesArk 2 3 0) ∧
      assemble "SYS.LD V8".toList = none := by decide +kernel

/-! ## Well-formedness: ill-formed terms are refused, and their neighbours are not (30_encoding.md R73) -/

theorem test_wf_rcon :
    Instr.wellFormed (.gfvRcon 1 0 0) = false ∧ Instr.wellFormed (.gfvRcon 1 0 11) = false ∧
      Instr.wellFormed (.gfvRcon 1 0 255) = false ∧ Instr.wellFormed (.gfvRcon 1 0 1) = true ∧
      Instr.wellFormed (.gfvRcon 1 0 10) = true := by decide

theorem test_wf_rkrd :
    Instr.wellFormed (.aesRkrd 2 15) = false ∧ Instr.wellFormed (.aesRkrd 2 255) = false ∧
      Instr.wellFormed (.aesRkrd 2 0) = true ∧ Instr.wellFormed (.aesRkrd 2 14) = true := by decide

theorem test_wf_ark :
    Instr.wellFormed (.aesArk 1 0 15) = false ∧ Instr.wellFormed (.aesArk 1 0 255) = false ∧
      Instr.wellFormed (.aesArk 1 0 0) = true ∧ Instr.wellFormed (.aesArk 1 0 14) = true := by decide

theorem test_wf_encr :
    Instr.wellFormed (.aesEncr 1 0 0) = false ∧ Instr.wellFormed (.aesEncr 1 0 14) = false ∧
      Instr.wellFormed (.aesEncr 1 0 255) = false ∧ Instr.wellFormed (.aesEncr 1 0 1) = true ∧
      Instr.wellFormed (.aesEncr 1 0 13) = true := by decide

theorem test_wf_decr :
    Instr.wellFormed (.aesDecr 1 0 0) = false ∧ Instr.wellFormed (.aesDecr 1 0 14) = false ∧
      Instr.wellFormed (.aesDecr 1 0 255) = false ∧ Instr.wellFormed (.aesDecr 1 0 1) = true ∧
      Instr.wellFormed (.aesDecr 1 0 13) = true := by decide

/-! ## One command each: the example of its rule -/

/-- R330. -/
theorem test_sys_nop :
    (after (testState 7 0 0) 0x00000000).reg 0 = 7 ∧
      (after (testState 7 0 0) 0x00000000).status = 0 := by decide +kernel

/-- R331. -/
theorem test_sys_ld :
    (after (State.setDin State.reset 0x55#128) 0x01E00000).reg 7 = 0x55#128 ∧
      (after (State.setDin State.reset 0x55#128) 0x01E00000).reg 0 = 0 := by decide +kernel

/-- R332. -/
theorem test_sys_st :
    (after (testState 1 0x99#128 0) 0x02040000).dout = 0x99#128 ∧
      (after (testState 1 0x99#128 0) 0x02040000).reg 1 = 0x99#128 := by decide +kernel

/-- R333. -/
theorem test_sys_mov :
    (after (testState 1 2 0x7b754bba26f8311d7642925847936225#128) 0x03A80000).reg 5 = 0x7b754bba26f8311d7642925847936225#128 ∧
      (after (testState 1 2 0x7b754bba26f8311d7642925847936225#128) 0x03A80000).reg 2 = 0x7b754bba26f8311d7642925847936225#128 := by decide +kernel

/-- R110. -/
theorem test_gf8_add : (after (testState 0x57 0x83 0) 0x10408000).reg 2 = 0xd4 := by decide +kernel

/-- R111. -/
theorem test_gf8_xt : (after (testState 0x57 0 0) 0x11200000).reg 1 = 0xae := by decide +kernel

/-- R112. -/
theorem test_gf8_mul : (after (testState 0x57 0x83 0) 0x12408000).reg 2 = 0xc1 := by decide +kernel

/-- R113. -/
theorem test_gf8_pow : (after (testState 0x02 0 0) 0x13200008).reg 1 = 0x1b := by decide +kernel

/-- R113, the corner `n = 0` of base 0. -/
theorem test_gf8_pow_zero : (after (testState 0 5 0) 0x13200000).reg 1 = 1 := by decide +kernel

/-- R114. -/
theorem test_gf8_inv : (after (testState 0x53 0 0) 0x14200000).reg 1 = 0xca := by decide +kernel

/-- R114, the corner 0. -/
theorem test_gf8_inv_zero :
    (after (testState 0 5 0) 0x14200000).reg 1 = 0 ∧
      (after (testState 0 5 0) 0x14200000).fault = false := by decide +kernel

/-- R115. -/
theorem test_gf8_sbox : (after (testState 0x53 0 0) 0x15200000).reg 1 = 0xed := by decide +kernel

/-- R116. -/
theorem test_gf8_isbox : (after (testState 0xed 0 0) 0x16200000).reg 1 = 0x53 := by decide +kernel

/-- R130. -/
theorem test_gfv_add : (after (testState 0x455313db 0x3c4fcf09 0) 0x20408000).reg 2 = 0x791cdcd2 := by decide +kernel

/-- R131. -/
theorem test_gfv_rotl : (after (testState 0x3c4fcf09 0 0) 0x21200001).reg 1 = 0x093c4fcf := by decide +kernel

/-- R132. -/
theorem test_gfv_dot : (after (testState 0x01010302 0x455313db 0) 0x22408000).reg 2 = 0x8e := by decide +kernel

/-- R133. -/
theorem test_gfv_subw : (after (testState 0x093c4fcf 0 0) 0x23200000).reg 1 = 0x01eb848a := by decide +kernel

/-- R134. -/
theorem test_gfv_rcon : (after (testState 0x01eb848a 0 0) 0x24200001).reg 1 = 0x01eb848b := by decide +kernel

/-- R134: `j = 11` raises `IMM_RANGE`. -/
theorem test_gfv_rcon_range :
    (after (testState 1 2 0) 0x2420000B).status = 0x32 ∧
      (after (testState 1 2 0) 0x2420000B).reg 1 = 2 := by decide +kernel

/-- R135. -/
theorem test_gfm_mulv :
    (after (testState 0x02010103030201010103020101010302 0x455313db 0) 0x25408000).reg 2 = 0xbca14d8e := by decide +kernel

/-- R170. -/
theorem test_gfq_add :
    (after (testState 0x7b754bba26f8311d7642925847936225#128 0x62a2012dbb621740b6df838c66954f4f#128 0) 0x30408000).reg 2 = 0x19d74a979d9a265dc09d11d421062d6a := by decide +kernel

/-- R171. -/
theorem test_gfq_xt :
    (after (testState 0x80000000000000000000000000000001 0 0) 0x31200000).reg 1 = 0xC2000000000000000000000000000003 := by decide +kernel

/-- R172. -/
theorem test_gfq_mul :
    (after (testState 0x7b754bba26f8311d7642925847936225#128 0x62a2012dbb621740b6df838c66954f4f#128 0) 0x32408000).reg 2 = 0x0e86dc8dbe9028bc81c295a6d68fdc45 := by decide +kernel

/-- R173. -/
theorem test_gfq_dot :
    (after (testState 0x62a2012dbb621740b6df838c66954f4f#128 0x7b754bba26f8311d7642925847936225#128 0) 0x33408000).reg 2 = 0x776d08511501169c9850ff3745c6dace := by decide +kernel

/-- R190; `RK[59]` is `6d 68 de 36`. -/
theorem test_aes_kexp :
    (after (testState (blockOf 0x000102030405060708090a0b0c0d0e0f#128) (blockOf 0x101112131415161718191a1b1c1d1e1f#128) 0) 0x40008000).rk[8] = 0x9fc273a5#32 ∧
      (after (testState (blockOf 0x000102030405060708090a0b0c0d0e0f#128) (blockOf 0x101112131415161718191a1b1c1d1e1f#128) 0) 0x40008000).rk[59] = 0x36de686d#32 ∧
      (after (testState (blockOf 0x000102030405060708090a0b0c0d0e0f#128) (blockOf 0x101112131415161718191a1b1c1d1e1f#128) 0) 0x40008000).kv = true := by decide +kernel

/-- R191. -/
theorem test_aes_rkrd :
    (after (keyedState 0) 0x41400002).reg 2 = (blockOf 0xa573c29fa176c498a97fce93a572c09c#128) := by decide +kernel

/-- R191, R410: `r = 15` with `KV = 0` reports `IMM_RANGE`. -/
theorem test_aes_rkrd_range : (after State.reset 0x4140000F).status = 0x32 := by decide +kernel

/-- R230. -/
theorem test_aes_sub :
    (after (testState (blockOf 0x00102030405060708090a0b0c0d0e0f0#128) 0 0) 0x50200000).reg 1 = (blockOf 0x63cab7040953d051cd60e0e7ba70e18c#128) := by decide +kernel

/-- R231. -/
theorem test_aes_shr :
    (after (testState (blockOf 0x63cab7040953d051cd60e0e7ba70e18c#128) 0 0) 0x51200000).reg 1 = (blockOf 0x6353e08c0960e104cd70b751bacad0e7#128) := by decide +kernel

/-- R232. -/
theorem test_aes_mix :
    (after (testState (blockOf 0x6353e08c0960e104cd70b751bacad0e7#128) 0 0) 0x52200000).reg 1 = (blockOf 0x5f72641557f5bc92f7be3b291db9f91a#128) := by decide +kernel

/-- R233. -/
theorem test_aes_ark :
    (after (keyedState (blockOf 0x00112233445566778899aabbccddeeff#128)) 0x53200000).reg 1 = (blockOf 0x00102030405060708090a0b0c0d0e0f0#128) := by decide +kernel

/-- R233: `KV = 0` raises `KEY_NOT_VALID`. -/
theorem test_aes_ark_key :
    (after State.reset 0x53200000).status = 0x42 ∧ (after State.reset 0x53200000).reg 1 = 0 := by decide +kernel

/-- R234. -/
theorem test_aes_encr :
    (after (keyedState (blockOf 0x00102030405060708090a0b0c0d0e0f0#128)) 0x54000001).reg 0 = (blockOf 0x4f63760643e0aa85efa7213201a4e705#128) := by decide +kernel

/-- R235. -/
theorem test_aes_encl :
    (after (keyedState (blockOf 0x627bceb9999d5aaac945ecf423f56da5#128)) 0x55200000).reg 1 = (blockOf 0x8ea2b7ca516745bfeafc49904b496089#128) := by decide +kernel

/-- R236, 95_test_vectors.md T40. -/
theorem test_aes_enc :
    (after (keyedState (blockOf 0x00112233445566778899aabbccddeeff#128)) 0x56200000).reg 1 = (blockOf 0x8ea2b7ca516745bfeafc49904b496089#128) := by decide +kernel

/-- R270. -/
theorem test_aes_isub :
    (after (testState (blockOf 0xaa218b56ee5ebeacdd6ecebf26e63c06#128) 0 0) 0x60200000).reg 1 = (blockOf 0x627bceb9999d5aaac945ecf423f56da5#128) := by decide +kernel

/-- R271. -/
theorem test_aes_ishr :
    (after (testState (blockOf 0xaa5ece06ee6e3c56dde68bac2621bebf#128) 0 0) 0x61200000).reg 1 = (blockOf 0xaa218b56ee5ebeacdd6ecebf26e63c06#128) := by decide +kernel

/-- R272. -/
theorem test_aes_imix :
    (after (testState (blockOf 0x2c21a820306f154ab712c75eee0da04f#128) 0 0) 0x62200000).reg 1 = (blockOf 0xd1ed44fd1a0f3f2afa4ff27b7c332a69#128) := by decide +kernel

/-- R273. -/
theorem test_aes_decr :
    (after (keyedState (blockOf 0x627bceb9999d5aaac945ecf423f56da5#128)) 0x6300000D).reg 0 = (blockOf 0x516604954353950314fb86e401922521#128) := by decide +kernel

/-- R274. -/
theorem test_aes_decf :
    (after (keyedState (blockOf 0x8ea2b7ca516745bfeafc49904b496089#128)) 0x64200000).reg 1 = (blockOf 0x627bceb9999d5aaac945ecf423f56da5#128) := by decide +kernel

/-- R275, 95_test_vectors.md T40. -/
theorem test_aes_dec :
    (after (keyedState (blockOf 0x8ea2b7ca516745bfeafc49904b496089#128)) 0x65200000).reg 1 = (blockOf 0x00112233445566778899aabbccddeeff#128) := by decide +kernel

/-- R300: the wrap. -/
theorem test_ctr_inc :
    (after (testState (blockOf 0xffffffff0102030405060708090a0b0c#128) 0 0) 0x70000000).reg 0 = (blockOf 0x000000000102030405060708090a0b0c#128) := by decide +kernel

/-- R301, first step. -/
theorem test_pv_step :
    (after (testState (blockOf 0x4f4f95668c83dfb6401762bb2d01a262#128) (blockOf 0x25629347589242761d31f826ba4b757b#128) 0) 0x71408000).reg 2 = (blockOf 0xcedac64537ff50989c16011551086d77#128) := by decide +kernel

/-- R301, second step: `rd` is read. -/
theorem test_pv_step_acc :
    (after (testState (blockOf 0xd1a24ddd2721d006bbe45f20d3c9f362#128) (blockOf 0x25629347589242761d31f826ba4b757b#128) (blockOf 0xcedac64537ff50989c16011551086d77#128)) 0x71408000).reg 2 = (blockOf 0xf7a3b47b846119fae5b7866cf5e5b77e#128) := by decide +kernel

/-- R302. -/
theorem test_siv_clr7 :
    (after (testState (blockOf 0xc2ef328e5c71c83b843122130f7364b7#128) 0 0) 0x72200000).reg 1 = (blockOf 0xc2ef328e5c71c83b843122130f736437#128) := by decide +kernel

/-- R303. -/
theorem test_siv_set7 :
    (after (testState (blockOf 0x07f5f4169bbf55a8400cd47ea6fd400f#128) 0 0) 0x73200000).reg 1 = (blockOf 0x07f5f4169bbf55a8400cd47ea6fd408f#128) := by decide +kernel

/-- R304. -/
theorem test_siv_cmp :
    (after (testState (blockOf 0x00112233445566778899aabbccddeeff#128) (blockOf 0x01112233445566778899aabbccddee7f#128) 0) 0x74408000).reg 2 = 0x81 ∧
      (after (testState (blockOf 0x00112233445566778899aabbccddeeff#128) (blockOf 0x01112233445566778899aabbccddee7f#128) 0) 0x74408000).fault = false := by decide +kernel

/-! ## The constructions (95_test_vectors.md T66, T53; 49_composition.md R357, R358) -/

/-- 95_test_vectors.md S12, T64. -/
theorem test_lenblock :
    lenblock [0x01] (List.replicate 8 0x02) = [8, 0, 0, 0, 0, 0, 0, 0, 64, 0, 0, 0, 0, 0, 0, 0] := by decide +kernel

/-- R357. -/
theorem test_pad : pad [] = [] ∧ (pad [1]).length = 16 ∧ (pad (List.replicate 16 1)).length = 16 := by decide +kernel

/-! ## Witnesses: the hypotheses of each statement are met -/

/-- The reset state with one command word at the port. -/
def atPort (w : Word32) : State := State.reset.present [.command w 0]

/-- A faulted state with the host's moves at the port. -/
def faultedState (moves : List HostMove) : State := (State.reset.recordFault .illegalOpcode).present moves

/-- Two states that differ above bit 31 of every register and in nothing else. -/
def wideState (x : Block) : State := { State.reset with v := Vector.replicate Config.nReg (x <<< 32 ||| 0x53#128) }

theorem witness_EncodeOfDecode : decode 0x71728000#32 = .ok (.pvStep 3 4 5) := by decide +kernel

/-- Both sides of the equivalence occur. -/
theorem witness_IllegalOpcodes :
    decode 0x04000000#32 = .error .illegalOpcode ∧ decode 0x03AC0000#32 ≠ .error .illegalOpcode := by decide +kernel

theorem witness_ReservedFields :
    (0x40, 0xFFE07FFF) ∈ specRows ∧ (0x40208000#32).toNat / 2 ^ 24 = 0x40 ∧
      decode 0x40208000#32 = .error .reservedField ∧ (0x40008000#32).toNat / 2 ^ 24 = 0x40 ∧
      decode 0x40008000#32 = .ok (.aesKexp 0 1) := by decide +kernel

/-- Each check of R77 is the first to fail for some word, and where two apply the first is the one reported. -/
theorem witness_DecodeOrder :
    (atPort 0x5300010F#32).fault = false ∧ (atPort 0x5300010F#32).inbox = [.command 0x5300010F#32 0] ∧
      specFault 0xFFFFFFFF#32 false = some .illegalOpcode ∧ specFault 0x5300010F#32 false = some .reservedField ∧
      specFault 0x5300000F#32 false = some .immRange ∧ specFault 0x5300000F#32 true = some .immRange ∧
      specFault 0x5300000E#32 false = some .keyNotValid ∧ specFault 0x5300000E#32 true = none ∧
      specFault 0x24000000#32 true = some .immRange ∧ specFault 0x24000001#32 false = none ∧
      specFault 0x2400000A#32 false = none ∧ specFault 0x2400000B#32 false = some .immRange ∧
      specFault 0x54000000#32 true = some .immRange ∧ specFault 0x54000001#32 true = none ∧
      specFault 0x5400000D#32 true = none ∧ specFault 0x5400000E#32 true = some .immRange ∧
      specFault 0x130000FF#32 false = none ∧ specFault 0x00000000#32 false = none := by decide +kernel

theorem witness_StepRunsDecodedCommand :
    (atPort 0x12408000#32).fault = false ∧ (atPort 0x12408000#32).inbox = .command 0x12408000#32 0 :: [] ∧
      decode 0x12408000#32 = .ok (.gf8Mul 2 0 1) := by decide +kernel

theorem witness_IdleStepHoldsState : State.reset.inbox = [] := rfl

theorem witness_FaultedStepRefuses :
    (faultedState [.command 0x40008000#32 5]).fault = true ∧
      (faultedState [.command 0x40008000#32 5]).inbox = .command 0x40008000#32 5 :: [] := by decide +kernel

theorem witness_FaultIsTerminal :
    let s := faultedState [.command 0x40008000#32 5, .command 0xFFFFFFFF#32 0, .reset]
    s.fault = true ∧ ∀ m ∈ s.inbox.take 2, m ≠ .reset := by decide +kernel

theorem witness_ResetMove :
    (faultedState [.reset]).inbox = .reset :: [] ∧ (State.reset.present [.reset]).inbox = .reset :: [] := ⟨rfl, rfl⟩

theorem invariant_atPort (w : Word32) : Invariant (atPort w) :=
  ⟨fun _ => rfl, nofun, nofun, fun _ => rfl, nofun⟩

theorem isNext_atPort (w : Word32) (h : isNext (step (atPort w)) = true) :
    Invariant (atPort w) ∧ step (atPort w) = .next (stateOf (atPort w) (step (atPort w))) :=
  ⟨invariant_atPort w, eq_next_of_isNext h⟩

/-- A step that writes a register, one that faults, and one that expands a key. -/
theorem witness_StepKeepsInvariant :
    (∃ t, Invariant (atPort 0x01000000#32) ∧ step (atPort 0x01000000#32) = .next t) ∧
      (∃ t, Invariant (atPort 0x56200000#32) ∧ step (atPort 0x56200000#32) = .next t) ∧
      ∃ t, Invariant (atPort 0x40008000#32) ∧ step (atPort 0x40008000#32) = .next t :=
  ⟨⟨_, isNext_atPort _ (by decide +kernel)⟩, ⟨_, isNext_atPort _ (by decide +kernel)⟩,
    ⟨_, isNext_atPort _ (by decide +kernel)⟩⟩

/-- A key expansion, and a reset that clears `KV`. -/
theorem witness_KeyScheduleWriters :
    ∀ s ∈ [atPort 0x40008000#32, (keyedState 0).present [.reset]],
      step s = .next (stateOf s (step s)) ∧ (stateOf s (step s)).kv ≠ s.kv := fun s hs =>
  have h := (by decide +kernel :
    ∀ s ∈ [atPort 0x40008000#32, (keyedState 0).present [.reset]],
      isNext (step s) = true ∧ (stateOf s (step s)).kv ≠ s.kv) s hs
  ⟨eq_next_of_isNext h.1, h.2⟩

/-- A store, and a reset that clears `DOUT`. -/
theorem witness_DoutWriters :
    ∀ s ∈ [(testState 0 7 0).present [.command 0x02040000#32 0], (State.reset.setDout 1).present [.reset]],
      step s = .next (stateOf s (step s)) ∧ (stateOf s (step s)).dout ≠ s.dout := fun s hs =>
  have h := (by decide +kernel :
    ∀ s ∈ [(testState 0 7 0).present [.command 0x02040000#32 0], (State.reset.setDout 1).present [.reset]],
      isNext (step s) = true ∧ (stateOf s (step s)).dout ≠ s.dout) s hs
  ⟨eq_next_of_isNext h.1, h.2⟩

theorem next_of_isNext {o : Result} (h : isNext o = true) : ∃ t, o = .next t := ⟨_, eq_next_of_isNext (s := .reset) h⟩

theorem witness_DinReadOnlyByLd :
    (∀ rd, decode 0x10408000#32 ≠ .ok (.sysLd rd)) ∧
      (∃ t, step (State.reset.present [.command 0x10408000#32 0#128]) = .next t) ∧
      ∃ t, step (State.reset.present [.command 0x10408000#32 1#128]) = .next t :=
  ⟨by decide +kernel, next_of_isNext (by decide +kernel), next_of_isNext (by decide +kernel)⟩

/-- A step that raises a fault, and two states with one `KV` and different registers at one faulting word. -/
theorem witness_FaultDetection :
    ∀ s ∈ [State.reset, testState 1 2 3],
      s.fault = false ∧ s.kv = State.reset.kv ∧
        step (s.present [.command 0x56200000#32 9]) = .next (stateOf s (step (s.present [.command 0x56200000#32 9]))) ∧
        (stateOf s (step (s.present [.command 0x56200000#32 9]))).fault = true := fun s hs =>
  have h := (by decide +kernel :
    ∀ s ∈ [State.reset, testState 1 2 3],
      s.fault = false ∧ s.kv = State.reset.kv ∧ isNext (step (s.present [.command 0x56200000#32 9])) = true ∧
        (stateOf s (step (s.present [.command 0x56200000#32 9]))).fault = true) s hs
  ⟨h.1, h.2.1, eq_next_of_isNext h.2.2.1, h.2.2.2⟩

/-- Two states that agree on the sources of a command, and on `RK` for a reader of it, and differ elsewhere. -/
theorem witness_SourcesAndDestination :
    ∀ i ∈ [Instr.gf8Mul 2 0 1, .pvStep 3 0 1, .sysSt 1, .aesKexp 0 1],
      (∀ r ∈ i.sources, (testState 5 6 7).reg r = (testState 5 6 8).reg r) ∧
        (testState 5 6 7).din = (testState 5 6 8).din ∧ (i.needsKey = true → (testState 5 6 7).rk = (testState 5 6 8).rk) ∧
        (testState 5 6 7).kv = (testState 5 6 8).kv ∧
        exec i (testState 5 6 7) = .next (stateOf State.reset (exec i (testState 5 6 7))) ∧
        exec i (testState 5 6 8) = .next (stateOf State.reset (exec i (testState 5 6 8))) ∧
        (testState 5 6 7).fault = false ∧ (testState 5 6 8).fault = false ∧
        (stateOf State.reset (exec i (testState 5 6 7))).fault = false := fun i hi =>
  have h := (by decide +kernel :
    ∀ i ∈ [Instr.gf8Mul 2 0 1, .pvStep 3 0 1, .sysSt 1, .aesKexp 0 1],
      (∀ r ∈ i.sources, (testState 5 6 7).reg r = (testState 5 6 8).reg r) ∧
        isNext (exec i (testState 5 6 7)) = true ∧ isNext (exec i (testState 5 6 8)) = true ∧
        (stateOf State.reset (exec i (testState 5 6 7))).fault = false) i hi
  ⟨h.1, rfl, fun _ => rfl, rfl, eq_next_of_isNext h.2.1, eq_next_of_isNext h.2.2.1, rfl, rfl, h.2.2.2⟩

/-- Every case of the three clauses, at the ends of each range. -/
theorem witness_LegalCommandsComplete :
    State.reset.fault = false ∧ State.reset.kv = false ∧ (keyedState 0).fault = false ∧ (keyedState 0).kv = true ∧
      (∀ i ∈ [Instr.gfvRcon 1 0 1, .gfvRcon 1 0 10, .gf8Pow 1 0 0, .gf8Pow 1 0 255],
        i.wellFormed = true ∧ i.needsKey = false) ∧
      (∀ i ∈ [Instr.aesRkrd 1 0, .aesRkrd 1 14, .aesArk 1 0 0, .aesArk 1 0 14, .aesEncr 1 0 1, .aesEncr 1 0 13,
          .aesDecr 1 0 1, .aesDecr 1 0 13, .aesEnc 1 0, .aesDec 1 0, .aesEncl 1 0, .aesDecf 1 0],
        i.wellFormed = true ∧ i.needsKey = true) ∧
      ∀ i ∈ [Instr.gfvRcon 1 0 0, .gfvRcon 1 0 11, .aesRkrd 1 15, .aesArk 1 0 15, .aesEncr 1 0 0, .aesEncr 1 0 14,
          .aesDecr 1 0 0, .aesDecr 1 0 14], i.wellFormed = false := by decide +kernel

/-- States that agree on `b0` (and on `w0`) of every register and differ above. -/
theorem witness_NarrowOperands :
    (∀ r, b0 ((wideState 0).reg r) = b0 ((wideState 9).reg r)) ∧
      (∀ r, w0 ((wideState 0).reg r) = w0 ((wideState 9).reg r)) ∧
      (∀ r, (wideState 0).reg r ≠ (wideState 9).reg r) ∧
      (∀ r, w0 ((testState 1 0x53 0).reg r) = w0 ((testState 1 (9 <<< 32 ||| 0x53) 0).reg r)) ∧
      (testState 1 0x53 0).reg 0 = (testState 1 (9 <<< 32 ||| 0x53) 0).reg 0 ∧
      ∀ n ∈ [1#8, 10#8], 1 ≤ n.toNat ∧ n.toNat ≤ 10 := by decide +kernel

/-- The one hypothesis of the statements about commands without an immediate range or a key. -/
theorem witness_no_fault : State.reset.fault = false := rfl

theorem witness_SystemCommands : (testState 1 2 3).fault = false := rfl

theorem witness_Gf8Commands : (testState 0x57 0x83 0).fault = false := rfl

/-- `GFV.RCON`: the ends of the legal range and their neighbours. -/
theorem witness_GfvCommands :
    (testState 1 2 3).fault = false ∧ (∀ n ∈ [1#8, 10#8], 1 ≤ n.toNat ∧ n.toNat ≤ 10) ∧
      ∀ n ∈ [0#8, 11#8, 255#8], n.toNat = 0 ∨ 11 ≤ n.toNat := by decide

theorem witness_Gf8FieldLaws : (1 : Byte) ≠ 0 ∧ (255 : Byte) ≠ 0 := by decide

theorem witness_GfqCommands : (testState 1 2 3).fault = false := rfl

theorem witness_KexpWritesSchedule : (testState 1 2 3).fault = false := rfl

/-- `AES.RKRD`: the ends of each range, with and without a key. -/
theorem witness_RkrdReadsRoundKey :
    State.reset.fault = false ∧ State.reset.kv = false ∧ (keyedState 0).fault = false ∧ (keyedState 0).kv = true ∧
      (∀ r ∈ [0#8, 14#8], r.toNat ≤ 14) ∧ ∀ r ∈ [15#8, 255#8], 15 ≤ r.toNat := by decide +kernel

theorem witness_AesTransformCommands : (testState 1 2 3).fault = false := rfl

/-- `AES.ARK` and `AES.ENCR`: the ends of each range, with and without a key. -/
theorem witness_AesEncryptCommands :
    State.reset.fault = false ∧ State.reset.kv = false ∧ (keyedState 0).fault = false ∧ (keyedState 0).kv = true ∧
      (∀ r ∈ [0#8, 14#8], r.toNat ≤ 14) ∧ (∀ r ∈ [15#8, 255#8], 15 ≤ r.toNat) ∧
      (∀ r ∈ [1#8, 13#8], 1 ≤ r.toNat ∧ r.toNat ≤ 13) ∧ ∀ r ∈ [0#8, 14#8, 255#8], r.toNat = 0 ∨ 14 ≤ r.toNat := by
  decide +kernel

/-- `AES.DECR`, `AES.DECF`, `AES.DEC`: the ends of each range, with and without a key. -/
theorem witness_AesDecryptCommands :
    State.reset.fault = false ∧ State.reset.kv = false ∧ (keyedState 0).fault = false ∧ (keyedState 0).kv = true ∧
      (∀ r ∈ [1#8, 13#8], 1 ≤ r.toNat ∧ r.toNat ≤ 13) ∧ ∀ r ∈ [0#8, 14#8, 255#8], r.toNat = 0 ∨ 14 ≤ r.toNat := by
  decide +kernel

theorem witness_BlockCommandsAreTheirRounds :
    (keyedState 0).kv = true ∧ ∀ r ∈ [1#8, 13#8], 1 ≤ r.toNat ∧ r.toNat ≤ 13 := by decide +kernel

theorem witness_DecryptUndoesEncrypt : (keyedState 5).fault = false ∧ (keyedState 5).kv = true := by simp [keyedState, testState]

theorem witness_SivStepCommands : (testState 1 2 3).fault = false := rfl

/-- The first and last byte of a stride, and the first of a short one. -/
theorem witness_CtrBytes : ∀ j ∈ [0, 15, 16], j < (List.replicate 17 (0 : Byte)).length := by decide

/-- A length that needs padding and one that needs none. -/
theorem witness_PadRule : ((List.replicate 1 (7 : Byte)).length + 15) % 16 = 0 ∧ (([] : List Byte).length + 0) % 16 = 0 := by
  decide

/-- The first and last byte of each half of the length block, for lengths whose bit length has a second byte. -/
theorem witness_ConstructionLengths :
    (∀ j ∈ [0, 7], j < 8) ∧ (lenblock (List.replicate 33 0) (List.replicate 64 0))[0]? = some 8#8 ∧
      (lenblock (List.replicate 33 0) (List.replicate 64 0))[1]? = some 1#8 ∧
      (lenblock (List.replicate 33 0) (List.replicate 64 0))[8]? = some 0#8 ∧
      (lenblock (List.replicate 33 0) (List.replicate 64 0))[9]? = some 2#8 ∧
      (lenblock (List.replicate 33 0) (List.replicate 64 0))[15]? = some 0#8 := by decide +kernel

theorem witness_HostDeriveComputesDerive : State.reset.fault = false := rfl

theorem witness_HostSetupLoadsKeys : State.reset.fault = false := rfl

theorem witness_HostTagComputesSivtag : (keyedState 1).fault = false ∧ (keyedState 1).kv = true := by simp [keyedState, testState]

theorem witness_HostCtrComputesCtr : (keyedState 1).fault = false ∧ (keyedState 1).kv = true := by simp [keyedState, testState]

/-- Inputs the host accepts, whatever `MAX_MSG_BYTES` is, and one that breaks each of the four preconditions. -/
theorem witness_HostEncryptIsSivEncrypt :
    State.reset.fault = false ∧
      ((List.replicate 32 (0 : Byte)).length = 32 ∧ (List.replicate 12 (0 : Byte)).length = 12 ∧
        ([] : List Byte).length ≤ Config.maxMsgBytes.val) ∧
      (List.replicate 31 (0 : Byte)).length ≠ 32 ∧ (List.replicate 13 (0 : Byte)).length ≠ 12 ∧
      Config.maxMsgBytes.val < (List.replicate (Config.maxMsgBytes.val + 1) (0 : Byte)).length := by simp

/-- As above, with an input of exactly one tag and one that is too long by one byte. -/
theorem witness_HostDecryptIsSivDecrypt :
    State.reset.fault = false ∧
      ((List.replicate 32 (0 : Byte)).length = 32 ∧ (List.replicate 12 (0 : Byte)).length = 12 ∧
        (List.replicate 16 (0 : Byte)).length - 16 ≤ Config.maxMsgBytes.val ∧
        ([] : List Byte).length ≤ Config.maxMsgBytes.val) ∧
      (List.replicate 31 (0 : Byte)).length ≠ 32 ∧ (List.replicate 13 (0 : Byte)).length ≠ 12 ∧
      Config.maxMsgBytes.val < (List.replicate (Config.maxMsgBytes.val + 17) (0 : Byte)).length - 16 := by
  refine ⟨rfl, ⟨rfl, rfl, by simp, by simp⟩, by decide, by decide, ?_⟩
  simp only [List.length_replicate]; omega

end Sys2Proof.Machine
end

section
/-! PROOFS. What a command does, said for two states at once: it is one effect, which its sources choose. -/

namespace Sys2Proof.Machine

/-! ### Decoding undoes encoding -/

/-- A packed word that meets the mask of its row's format decodes to what the row builds. -/
theorem decode_packWord_of_format {op : BitVec 8} {m : String} {f : Format}
    {build : RegIdx → RegIdx → RegIdx → Imm8 → Instr} {rd rs1 rs2 : RegIdx} {imm : Imm8} {i : Instr}
    (hrow : rowOf op = some ⟨op, m, f, build⟩) (hmask : packWord op rd rs1 rs2 imm &&& f.mask = matchWord op)
    (hi : build rd rs1 rs2 imm = i) : decode (packWord op rd rs1 rs2 imm) = .ok i :=
  hi ▸ decode_packWord hrow hmask

/-- Every format's word meets its own mask, so decoding a command's word gives the command back (R72, R75). -/
theorem decode_encode (i : Instr) : decode (encode i) = .ok i := by
  cases i with
  | sysNop => exact decode_packWord_of_format (by rfl) (wordN_mask _) (by rfl)
  | sysLd rd => exact decode_packWord_of_format (by rfl) (wordD_mask _ rd) (by rfl)
  | sysSt rs1 => exact decode_packWord_of_format (by rfl) (wordS_mask _ rs1) (by rfl)
  | aesKexp rs1 rs2 => exact decode_packWord_of_format (by rfl) (wordSS_mask _ rs1 rs2) (by rfl)
  | aesRkrd rd n => exact decode_packWord_of_format (by rfl) (wordDI_mask _ rd n) (by rfl)
  | gf8Pow rd rs1 n | gfvRotl rd rs1 n | gfvRcon rd rs1 n | aesArk rd rs1 n | aesEncr rd rs1 n | aesDecr rd rs1 n =>
    exact decode_packWord_of_format (by rfl) (wordDSI_mask _ rd rs1 n) (by rfl)
  | gf8Add rd rs1 rs2 | gf8Mul rd rs1 rs2 | gfvAdd rd rs1 rs2 | gfvDot rd rs1 rs2 | gfmMulv rd rs1 rs2
  | gfqAdd rd rs1 rs2 | gfqMul rd rs1 rs2 | gfqDot rd rs1 rs2 | pvStep rd rs1 rs2 | sivCmp rd rs1 rs2 =>
    exact decode_packWord_of_format (by rfl) (wordDSS_mask _ rd rs1 rs2) (by rfl)
  | sysMov rd rs1 | gf8Xt rd rs1 | gf8Inv rd rs1 | gf8Sbox rd rs1 | gf8Isbox rd rs1 | gfvSubw rd rs1 | gfqXt rd rs1
  | aesSub rd rs1 | aesShr rd rs1 | aesMix rd rs1 | aesEncl rd rs1 | aesEnc rd rs1 | aesIsub rd rs1 | aesIshr rd rs1
  | aesImix rd rs1 | aesDecf rd rs1 | aesDec rd rs1 | ctrInc rd rs1 | sivClr7 rd rs1 | sivSet7 rd rs1 =>
    exact decode_packWord_of_format (by rfl) (wordDS_mask _ rd rs1) (by rfl)

/-! ### The effect of a command -/

/-- What one command can do to the state, with the value it writes. -/
inductive Effect where
  | nothing
  | write (rd : RegIdx) (x : Block)
  | output (x : Block)
  | schedule (w : Vector Word32 Config.nRk)
  | fault (c : FaultCause)

/-- The state after the effect. -/
def Effect.apply : Effect → State → State
  | .nothing, s => s
  | .write rd x, s => s.setReg rd x
  | .output x, s => s.setDout x
  | .schedule w, s => s.loadSchedule w
  | .fault c, s => s.recordFault c

/-- The effects a command may have: it writes its destination and nothing else, or faults. -/
def Effect.AllowedFor (i : Instr) : Effect → Prop
  | .nothing => i = .sysNop
  | .write rd _ => i.dest = some rd
  | .output _ => ∃ rs1, i = .sysSt rs1
  | .schedule _ => ∃ rs1 rs2, i = .aesKexp rs1 rs2
  | .fault _ => True

/-- The command `i` answers `o1` from `s1` and `o2` from `s2` by one and the same effect. -/
def SameEffect (i : Instr) (s1 s2 : State) (o1 o2 : Result) : Prop :=
  ∃ e : Effect, e.AllowedFor i ∧ o1 = .next (e.apply s1) ∧ o2 = .next (e.apply s2)

theorem sameEffect_writeBlock {i : Instr} {s1 s2 : State} {rd : RegIdx} {x1 x2 : Block} (hd : i.dest = some rd)
    (hx : x1 = x2) : SameEffect i s1 s2 (writeBlock rd x1 s1) (writeBlock rd x2 s2) :=
  ⟨.write rd x1, hd, rfl, by rw [hx]; rfl⟩

theorem sameEffect_raise (i : Instr) (s1 s2 : State) (c : FaultCause) :
    SameEffect i s1 s2 (raise c s1) (raise c s2) :=
  ⟨.fault c, trivial, rfl, rfl⟩

theorem SameEffect.guardImm {i : Instr} {s1 s2 : State} {o1 o2 : Result} (legal : Bool)
    (h : SameEffect i s1 s2 o1 o2) : SameEffect i s1 s2 (guardImm legal s1 o1) (guardImm legal s2 o2) := by
  cases legal with
  | true => exact h
  | false => exact sameEffect_raise i s1 s2 .immRange

theorem SameEffect.guardKey {i : Instr} {s1 s2 : State} {o1 o2 : Result} (hkv : s1.kv = s2.kv)
    (h : SameEffect i s1 s2 o1 o2) : SameEffect i s1 s2 (guardKey s1 o1) (guardKey s2 o2) := by
  cases hk : s1.kv with
  | true => rwa [guardKey_of_kv hk, guardKey_of_kv (hkv ▸ hk)]
  | false =>
    rw [guardKey_of_not_kv hk, guardKey_of_not_kv (hkv ▸ hk)]
    exact sameEffect_raise i s1 s2 .keyNotValid

/-- From two states that agree on what a command reads, the command has one effect (00_scope.md R17). -/
theorem exec_sameEffect (i : Instr) {s1 s2 : State} (hsrc : ∀ r ∈ i.sources, s1.reg r = s2.reg r)
    (hdin : s1.din = s2.din) (hrk : i.needsKey = true → s1.rk = s2.rk) (hkv : s1.kv = s2.kv) :
    SameEffect i s1 s2 (exec i s1) (exec i s2) := by
  simp only [Instr.sources] at hsrc
  cases i with
  | sysNop => exact ⟨.nothing, rfl, rfl, rfl⟩
  | sysSt rs1 =>
    exact ⟨.output (s1.reg rs1), ⟨rs1, rfl⟩, rfl, by rw [hsrc rs1 (by simp)]; rfl⟩
  | aesKexp rs1 rs2 =>
    refine ⟨.schedule (keyExpand (s1.reg rs1) (s1.reg rs2)), ⟨rs1, rs2, rfl⟩, rfl, ?_⟩
    rw [hsrc rs1 (by simp), hsrc rs2 (by simp)]; rfl
  | sysLd rd => exact sameEffect_writeBlock rfl hdin
  | gfvRcon rd rs1 j =>
    exact .guardImm _ (sameEffect_writeBlock rfl (by simp only [readWord, hsrc rs1 (by simp)]))
  | aesRkrd rd r =>
    exact .guardImm _ (.guardKey hkv (sameEffect_writeBlock rfl (by rw [hrk rfl])))
  | aesArk rd rs1 r | aesEncr rd rs1 r | aesDecr rd rs1 r =>
    exact .guardImm _ (.guardKey hkv (sameEffect_writeBlock rfl (by simp only [readBlock, hrk rfl, hsrc rs1 (by simp)])))
  | aesEncl rd rs1 | aesEnc rd rs1 | aesDecf rd rs1 | aesDec rd rs1 =>
    exact .guardKey hkv (sameEffect_writeBlock rfl (by simp only [readBlock, hrk rfl, hsrc rs1 (by simp)]))
  | sysMov rd rs1 | gf8Xt rd rs1 | gf8Pow rd rs1 n | gf8Inv rd rs1 | gf8Sbox rd rs1 | gf8Isbox rd rs1
  | gfvRotl rd rs1 n | gfvSubw rd rs1 | gfqXt rd rs1 | aesSub rd rs1 | aesShr rd rs1 | aesMix rd rs1 | aesIsub rd rs1
  | aesIshr rd rs1 | aesImix rd rs1 | ctrInc rd rs1 | sivClr7 rd rs1 | sivSet7 rd rs1 =>
    exact sameEffect_writeBlock rfl (by simp only [readByte, readWord, readBlock, hsrc rs1 (by simp)])
  | gf8Add rd rs1 rs2 | gf8Mul rd rs1 rs2 | gfvAdd rd rs1 rs2 | gfvDot rd rs1 rs2 | gfmMulv rd rs1 rs2
  | gfqAdd rd rs1 rs2 | gfqMul rd rs1 rs2 | gfqDot rd rs1 rs2 | sivCmp rd rs1 rs2 =>
    exact sameEffect_writeBlock rfl
      (by simp only [readByte, readWord, readBlock, hsrc rs1 (by simp), hsrc rs2 (by simp)])
  | pvStep rd rs1 rs2 =>
    exact sameEffect_writeBlock rfl
      (by simp only [readBlock, hsrc rd (by simp), hsrc rs1 (by simp), hsrc rs2 (by simp)])

/-- A command always answers a next state, by an effect allowed for it. -/
theorem exec_effect (i : Instr) (s : State) : ∃ e : Effect, e.AllowedFor i ∧ exec i s = .next (e.apply s) := by
  obtain ⟨e, he, h, -⟩ := exec_sameEffect i (s1 := s) (s2 := s) (fun _ _ => rfl) rfl (fun _ => rfl) rfl
  exact ⟨e, he, h⟩

/-! ### What an effect leaves alone -/

theorem Effect.reg_apply_of_ne_dest {i : Instr} {e : Effect} (he : e.AllowedFor i) (s : State) {r : RegIdx}
    (hr : i.dest ≠ some r) : (e.apply s).reg r = s.reg r := by
  cases e with
  | write rd x => exact reg_setReg_of_ne s x (fun h => hr (h ▸ he))
  | nothing | output _ | schedule _ | fault _ => rfl

theorem Effect.sameHost_apply (e : Effect) (s : State) : SameHost s (e.apply s) := by
  cases e <;> exact ⟨rfl, rfl⟩

theorem Effect.schedule_apply_of_ne_aesKexp {i : Instr} {e : Effect} (he : e.AllowedFor i) (s : State)
    (hi : ∀ rs1 rs2, i ≠ .aesKexp rs1 rs2) : (e.apply s).rk = s.rk ∧ (e.apply s).kv = s.kv := by
  cases e with
  | schedule w =>
    obtain ⟨rs1, rs2, h⟩ := he
    exact absurd h (hi rs1 rs2)
  | nothing | write _ _ | output _ | fault _ => exact ⟨rfl, rfl⟩

theorem Effect.dout_apply_of_ne_sysSt {i : Instr} {e : Effect} (he : e.AllowedFor i) (s : State)
    (hi : ∀ rs1, i ≠ .sysSt rs1) : (e.apply s).dout = s.dout := by
  cases e with
  | output x =>
    obtain ⟨rs1, h⟩ := he
    exact absurd h (hi rs1)
  | nothing | write _ _ | schedule _ | fault _ => rfl

/-! ### What an effect fixes, in any state -/

theorem Effect.apply_congr {i : Instr} {e : Effect} (he : e.AllowedFor i) {s1 s2 : State}
    (hf1 : (e.apply s1).fault = false) (hf2 : s2.fault = false) :
    (e.apply s2).fault = false ∧ (∀ r, i.dest = some r → (e.apply s1).reg r = (e.apply s2).reg r) ∧
      (∀ rs1 rs2, i = .aesKexp rs1 rs2 → (e.apply s1).rk = (e.apply s2).rk) ∧
      ∀ rs1, i = .sysSt rs1 → (e.apply s1).dout = (e.apply s2).dout := by
  cases e with
  | nothing =>
    obtain rfl : i = .sysNop := he
    exact ⟨hf2, nofun, nofun, nofun⟩
  | write rd x =>
    have hd : i.dest = some rd := he
    refine ⟨hf2, fun r hr => ?_, ?_, ?_⟩
    · obtain rfl : rd = r := Option.some.inj (hd ▸ hr)
      simp [Effect.apply]
    · rintro _ _ rfl; cases hd
    · rintro _ rfl; cases hd
  | output x =>
    obtain ⟨rs1, rfl⟩ := he
    exact ⟨hf2, nofun, nofun, fun _ _ => rfl⟩
  | schedule w =>
    obtain ⟨rs1, rs2, rfl⟩ := he
    exact ⟨hf2, nofun, fun _ _ _ => rfl, nofun⟩
  | fault c => cases hf1

end Sys2Proof.Machine
end

section
/-! PROOFS. The statements about the step and about what a command reads and writes. -/

open Sys2Proof Sys2Proof.Machine

/-- Settles O8: the port hands the decoded command the state that has taken its word and `DIN`. -/
theorem stepRunsDecodedCommand : Obligations.StepRunsDecodedCommand := by
  intro s w d rest i hf hin hd
  refine ⟨(s.takeMove rest).setDin d, ?_, ⟨fun _ => rfl, rfl, rfl, rfl, rfl, rfl⟩, rfl, rfl⟩
  exact (step_command hin).trans (issueWord_ok (by simpa using hf) hd)

/-- Settles O9, by the cases of a step: no command touches the moves still to come. -/
theorem stepTakesOneMove : Obligations.StepTakesOneMove := by
  intro s
  rcases step_cases s with ⟨hin, hs⟩ | ⟨rest, hin, hs⟩ | ⟨w, d, rest, hin, -, hs⟩ | ⟨w, d, rest, c, hin, -, -, hs⟩ |
    ⟨w, d, rest, i, hin, -, -, hs⟩
  · exact ⟨_, hs, by simp [hin]⟩
  · exact ⟨_, hs, by simp [hin]⟩
  · exact ⟨_, hs, by simp [hin]⟩
  · exact ⟨_, hs, by simp [hin]⟩
  · obtain ⟨e, -, he⟩ := exec_effect i ((s.takeMove rest).setDin d)
    obtain ⟨-, hinbox⟩ := e.sameHost_apply ((s.takeMove rest).setDin d)
    exact ⟨_, hs.trans he, by rw [hinbox, hin]; rfl⟩

/-- Settles O24: a command is one effect, allowed for it and chosen by what it reads. -/
theorem sourcesAndDestination : Obligations.SourcesAndDestination := by
  constructor
  · intro i s t ht
    obtain ⟨e, he, h⟩ := exec_effect i s
    obtain rfl : e.apply s = t := Host.Outcome.next.inj (h.symm.trans ht)
    exact ⟨fun _ => Effect.reg_apply_of_ne_dest he s, e.sameHost_apply s, Effect.schedule_apply_of_ne_aesKexp he s,
      Effect.dout_apply_of_ne_sysSt he s⟩
  · intro i s1 s2 t1 t2 hsrc hdin hrk hkv ht1 ht2 _ hf2 hf
    obtain ⟨e, he, h1, h2⟩ := exec_sameEffect i hsrc hdin hrk hkv
    obtain rfl : e.apply s1 = t1 := Host.Outcome.next.inj (h1.symm.trans ht1)
    obtain rfl : e.apply s2 = t2 := Host.Outcome.next.inj (h2.symm.trans ht2)
    exact Effect.apply_congr he hf hf2
end

section
/-! PROOFS. Bit vectors as polynomials over GF(2), and the multiplication loop of R102 as the product in the field. -/

namespace Sys2Proof.Machine

open Polynomial

/-! ### The polynomial of a bit vector (00_scope.md R18) -/

/-- The polynomial whose coefficient of `X ^ i` is bit `i`. -/
noncomputable def toPoly {n : Nat} (x : BitVec n) : (ZMod 2)[X] :=
  ∑ i ∈ Finset.range n, if x.getLsbD i then X ^ i else 0

theorem represents_toPoly {n : Nat} (x : BitVec n) : Represents x (toPoly x) := rfl

@[simp] theorem toPoly_zero (n : Nat) : toPoly (0#n) = 0 := by simp [toPoly]

/-- Addition of coefficients modulo 2 is XOR. -/
theorem toPoly_xor {n : Nat} (x y : BitVec n) : toPoly (x ^^^ y) = toPoly x + toPoly y := by
  rw [toPoly, toPoly, toPoly, ← Finset.sum_add_distrib]
  refine Finset.sum_congr rfl fun i _ => ?_
  cases hx : x.getLsbD i <;> cases hy : y.getLsbD i <;> simp [hx, hy, CharTwo.add_self_eq_zero]

/-- Multiplying by `X` moves every bit up; the bit that leaves the vector stays as the coefficient of `X ^ n`. -/
theorem X_mul_toPoly {n : Nat} (x : BitVec (n + 1)) :
    X * toPoly x = toPoly (x <<< 1) + if x.getLsbD n then X ^ (n + 1) else 0 := by
  rw [toPoly, toPoly, Finset.sum_range_succ, Finset.sum_range_succ', mul_add, Finset.mul_sum]
  congr 1
  · rw [show (if (x <<< 1).getLsbD 0 then (X : (ZMod 2)[X]) ^ 0 else 0) = 0 by simp, add_zero]
    refine Finset.sum_congr rfl fun i hi => ?_
    have hi' : i < n := Finset.mem_range.mp hi
    have hbit : (x <<< 1).getLsbD (i + 1) = x.getLsbD i := by simp [hi', BitVec.getLsbD_eq_getElem (Nat.lt_succ_of_lt hi')]
    rw [hbit, mul_ite, mul_zero, pow_succ']
  · simp [pow_succ']

/-- A bit vector as an element of the polynomials modulo `m`. -/
noncomputable def toQuot (m : (ZMod 2)[X]) {n : Nat} (x : BitVec n) : AdjoinRoot m := AdjoinRoot.mk m (toPoly x)

@[simp] theorem toQuot_zero (m : (ZMod 2)[X]) (n : Nat) : toQuot m (0#n) = 0 := by simp [toQuot]

theorem toQuot_xor (m : (ZMod 2)[X]) {n : Nat} (x y : BitVec n) : toQuot m (x ^^^ y) = toQuot m x + toQuot m y := by
  simp [toQuot, toPoly_xor]

/-- Shifting left, and adding `r` when the top bit leaves, is multiplication by `X` modulo `X ^ (n + 1) + r`. -/
theorem toQuot_shift_reduce {n : Nat} (x r : BitVec (n + 1)) :
    toQuot (X ^ (n + 1) + toPoly r) (x <<< 1 ^^^ if x.getLsbD n then r else 0) =
      AdjoinRoot.root _ * toQuot (X ^ (n + 1) + toPoly r) x := by
  rw [toQuot, toQuot, ← AdjoinRoot.mk_X, ← map_mul, AdjoinRoot.mk_eq_mk, X_mul_toPoly, toPoly_xor,
    add_sub_add_left_eq_sub]
  cases x.getLsbD n with
  | true => simp [CharTwo.sub_eq_add, add_comm]
  | false => simp

/-! ### The multiplication loop -/

/-- The loop that R102 and R162 share, over the doubling `dbl`. -/
def doubleAddLoop {w : Nat} (dbl : BitVec w → BitVec w) (b : BitVec w) : (n k : Nat) → (res t : BitVec w) → BitVec w
  | 0, _, res, _ => res
  | n + 1, k, res, t => doubleAddLoop dbl b n (k + 1) (if b.getLsbD k then res ^^^ t else res) (dbl t)

theorem multiplyLoop_eq_doubleAddLoop (b : Byte) (n k : Nat) (res t : Byte) :
    multiplyLoop b n k res t = doubleAddLoop xtimes b n k res t := by
  induction n generalizing k res t with
  | zero => rfl
  | succ n ih => exact ih _ _ _

/-- When `dbl` multiplies by `X`, the loop adds to `res` the product of `t` and the bits of `b` it reads. -/
theorem toQuot_doubleAddLoop {m : (ZMod 2)[X]} {w : Nat} {dbl : BitVec w → BitVec w}
    (hdbl : ∀ x, toQuot m (dbl x) = AdjoinRoot.root m * toQuot m x) (b : BitVec w) (n k : Nat) (res t : BitVec w) :
    toQuot m (doubleAddLoop dbl b n k res t) = toQuot m res +
      toQuot m t * ∑ j ∈ Finset.range n, if b.getLsbD (k + j) then AdjoinRoot.root m ^ j else 0 := by
  induction n generalizing k res t with
  | zero => simp [doubleAddLoop]
  | succ n ih =>
    have hres : toQuot m (if b.getLsbD k then res ^^^ t else res) =
        toQuot m res + toQuot m t * if b.getLsbD k then 1 else 0 := by
      cases b.getLsbD k <;> simp [toQuot_xor]
    have hsum : (∑ j ∈ Finset.range n, if b.getLsbD (k + (j + 1)) then AdjoinRoot.root m ^ (j + 1) else 0) =
        AdjoinRoot.root m * ∑ j ∈ Finset.range n, if b.getLsbD (k + 1 + j) then AdjoinRoot.root m ^ j else 0 := by
      rw [Finset.mul_sum]
      refine Finset.sum_congr rfl fun j _ => ?_
      rw [mul_ite, mul_zero, pow_succ', Nat.add_assoc, Nat.add_comm 1 j]
    rw [doubleAddLoop, ih, hres, hdbl, Finset.sum_range_succ', hsum, Nat.add_zero k, pow_zero]
    ring

/-- Read from bit 0 over its whole width, the bits of `b` are `b` itself. -/
theorem sum_bits_eq_toQuot (m : (ZMod 2)[X]) {w : Nat} (b : BitVec w) :
    (∑ j ∈ Finset.range w, if b.getLsbD (0 + j) then AdjoinRoot.root m ^ j else 0) = toQuot m b := by
  rw [toQuot, toPoly, map_sum]
  refine Finset.sum_congr rfl fun j _ => ?_
  rw [Nat.zero_add, apply_ite (AdjoinRoot.mk m), map_pow, AdjoinRoot.mk_X, map_zero]

theorem toQuot_doubleAddLoop_eq_mul {m : (ZMod 2)[X]} {w : Nat} {dbl : BitVec w → BitVec w}
    (hdbl : ∀ x, toQuot m (dbl x) = AdjoinRoot.root m * toQuot m x) (a b : BitVec w) :
    toQuot m (doubleAddLoop dbl b w 0 0 a) = toQuot m a * toQuot m b := by
  rw [toQuot_doubleAddLoop hdbl, sum_bits_eq_toQuot]
  simp

/-! ### The AES field -/

/-- `x^8 + x^4 + x^3 + x + 1` (R101). -/
noncomputable def aesPoly : (ZMod 2)[X] := X ^ 8 + X ^ 4 + X ^ 3 + X + 1

theorem aesPoly_eq : aesPoly = X ^ 8 + toPoly 0x1b#8 := by
  simp [aesPoly, toPoly, Finset.sum_range_succ]
  abel

theorem toQuot_xtimes (a : Byte) : toQuot aesPoly (xtimes a) = AdjoinRoot.root aesPoly * toQuot aesPoly a := by
  have hshift : (a &&& 0x7f#8) <<< 1 = a <<< 1 := by
    revert a; decide +kernel
  rw [xtimes, hshift, aesPoly_eq]
  exact toQuot_shift_reduce (n := 7) a 0x1b#8

theorem toQuot_multiply (a b : Byte) : toQuot aesPoly (multiply a b) = toQuot aesPoly a * toQuot aesPoly b := by
  rw [multiply, multiplyLoop_eq_doubleAddLoop]
  exact toQuot_doubleAddLoop_eq_mul toQuot_xtimes a b

end Sys2Proof.Machine
end

section
/-! PROOFS. The statement about `multiply`. -/

open Sys2Proof Sys2Proof.Machine

/-- Settles O31: `multiply` is multiplication modulo the AES polynomial, by the invariant of its loop. -/
theorem multiplyIsFieldProduct : Obligations.MultiplyIsFieldProduct := by
  intro a b
  refine ⟨_, _, _, represents_toPoly a, represents_toPoly b, represents_toPoly (multiply a b), ?_⟩
  have h := toQuot_multiply a b
  rw [toQuot, toQuot, toQuot, ← map_mul] at h
  exact AdjoinRoot.mk_eq_mk.mp h
end

section
/-! PROOFS. Byte strings and blocks (00_scope.md R11): taking a block apart into bytes and putting it together. -/

namespace Sys2Proof.Machine

/-! ### Blocks of byte strings -/

@[simp] theorem byte_zero (k : Nat) : byte 0#128 k = 0#8 := by simp [byte]

/-- Byte `k` of `blk(X)` is `X[k]`, and zero past the end of `X`. -/
theorem byte_blk (x : List Byte) {k : Nat} (hk : k < 16) : byte (blk x) k = x.getD k 0 := by
  induction x generalizing k with
  | nil => exact byte_zero k
  | cons b bs ih =>
    cases k with
    | zero => ext i hi; simp [blk, byte]; grind
    | succ k =>
      rw [List.getD_cons_succ, ← ih (by omega)]
      ext i hi
      simp [blk, byte]
      grind

@[simp] theorem length_bytesOf (x : Block) : (bytesOf x).length = 16 := by simp [bytesOf]

theorem getElem_bytesOf (x : Block) {k : Nat} (hk : k < (bytesOf x).length) : (bytesOf x)[k] = byte x k := by
  simp [bytesOf]

@[simp] theorem blk_bytesOf (x : Block) : blk (bytesOf x) = x := by
  refine block_ext_byte fun k hk => ?_
  have hlen : k < (bytesOf x).length := by simpa using hk
  rw [byte_blk _ hk, List.getD_eq_getElem _ _ hlen, getElem_bytesOf]

/-- The bytes the host keeps of a keystream block XORed with a short, zero-padded stride (R384). -/
theorem take_bytesOf_blk_xor {m : List Byte} (hm : m.length ≤ 16) (e : Block) :
    (bytesOf (blk m ^^^ e)).take m.length = xorBytes m (bytesOf e) := by
  refine List.ext_getElem (by simp [xorBytes]) fun k hk _ => ?_
  have hkm : k < m.length := by simp at hk; omega
  rw [List.getElem_take, getElem_bytesOf, byte_xor, byte_blk _ (by omega), List.getD_eq_getElem _ _ hkm]
  simp [xorBytes, getElem_bytesOf]

theorem length_le_of_mem_strides {n : Nat} {x m : List Byte} (hm : m ∈ strides n x) : m.length ≤ 16 := by
  induction n generalizing x with
  | zero => cases hm
  | succ n ih =>
    rcases List.mem_cons.mp hm with rfl | hm
    · simp
    · exact ih hm

/-! ### Counter blocks (R356) -/

/-- A counter block is its 32-bit counter below the rest. -/
theorem blk_le32_append (i : Nat) (n : List Byte) :
    blk (le32 i ++ n) = blk n <<< 32 ||| (BitVec.ofNat 32 i).setWidth 128 := by
  refine block_ext_byte fun k hk => ?_
  have hlen : (le32 i).length = 4 := by simp [le32, leBytes]
  rw [byte_blk _ hk]
  by_cases hk4 : k < 4
  · have hbyte : (le32 i ++ n).getD k 0 = BitVec.ofNat 8 (i / 2 ^ (8 * k)) := by
      rw [List.getD_append _ _ _ _ (by omega), List.getD_eq_getElem _ _ (by omega), pow_mul]
      simp [le32, leBytes]
    rw [hbyte]
    refine BitVec.eq_of_getLsbD_eq fun t ht => ?_
    simp only [byte, BitVec.getLsbD_extractLsb', BitVec.getLsbD_or, BitVec.getLsbD_shiftLeft, BitVec.getLsbD_setWidth,
      BitVec.getLsbD_ofNat, Nat.testBit_div_two_pow]
    simp [show 8 * k + t < 32 by omega, show 8 * k + t < 128 by omega, Nat.add_comm t, ht]
  · rw [List.getD_append_right _ _ _ _ (by omega), hlen, ← byte_blk n (by omega)]
    ext t ht
    simp [byte]
    grind

theorem ctrinc_counter (hi : Block) (w : Word32) :
    ctrinc (hi <<< 32 ||| w.setWidth 128) = hi <<< 32 ||| (w + 1).setWidth 128 := by
  have hlow : w0 (hi <<< 32 ||| w.setWidth 128) = w := by
    ext t ht; simp [w0]; grind
  have hhigh : (hi <<< 32 ||| w.setWidth 128) &&& ~~~0xFFFFFFFF#128 = hi <<< 32 := by
    have hmask : ∀ t < 128, (~~~0xFFFFFFFF#128).getLsbD t = decide (32 ≤ t) := by decide
    refine BitVec.eq_of_getLsbD_eq fun t ht => ?_
    rw [BitVec.getLsbD_and, hmask t ht]
    simp
    grind
  rw [ctrinc, hlow, hhigh]

/-- The host's counter step: the next counter block of a key derivation. -/
theorem ctrinc_blk_le32 (i : Nat) (n : List Byte) : ctrinc (blk (le32 i ++ n)) = blk (le32 (i + 1) ++ n) := by
  rw [blk_le32_append, blk_le32_append, ctrinc_counter, BitVec.ofNat_add]
  rfl

/-! ### Comparing tags -/

/-- The 16 bytes of a zero-extended byte are all zero exactly when it is zero. -/
theorem forall_bytesOf_setWidth_eq_zero (e : Byte) : (∀ b ∈ bytesOf (e.setWidth 128), b = 0#8) ↔ e = 0#8 := by
  constructor
  · intro h
    have h0 : byte (e.setWidth 128) 0 = 0#8 := h _ (List.mem_map.mpr ⟨0, by simp, rfl⟩)
    rwa [← b0_eq_byte, b0_setWidth] at h0
  · rintro rfl b hb
    obtain ⟨k, -, rfl⟩ := List.mem_map.mp hb
    simp

end Sys2Proof.Machine
end

section
/-! PROOFS. The host's sequences (49_composition.md section 2) from a state without a fault: what each of their commands
answers, and what each part computes and keeps. -/

namespace Sys2Proof.Machine

@[simp] theorem andThen_next {α β : Type} (a : α) (k : α → Host.Outcome β Fault Refusal) :
    andThen (.next a) k = k a := rfl

/-! ### Single commands of the host -/

section
variable {s : State} (hf : s.fault = false)
include hf

/-- A command the host presents is decoded to itself and executed, its move taken from the port again. -/
theorem hostCommand_eq (i : Instr) (d : Block) : hostCommand i d s = exec i (s.setDin d) := by
  have hstep : step (s.present [.command (encode i) d]) = issueWord (encode i) (s.setDin d) :=
    step_command (s := s.present [.command (encode i) d]) (rest := s.inbox) rfl
  exact hstep.trans (issueWord_ok (by simpa using hf) (decode_encode i))

theorem hostDo_eq (i : Instr) : hostDo i s = exec i s := hostCommand_eq hf i s.din

theorem hostLoad_eq (r : RegIdx) (x : List Byte) :
    hostLoad r x s = .next ((s.setDin (blk x)).setReg r (blk x)) := hostCommand_eq hf _ _

theorem hostStore_eq (r : RegIdx) : hostStore r s = .next (bytesOf (s.reg r), s.setDout (s.reg r)) := by
  rw [hostStore, hostDo_eq hf]; rfl

theorem hostDo_sysMov (rd rs1 : RegIdx) : hostDo (.sysMov rd rs1) s = .next (s.setReg rd (s.reg rs1)) := hostDo_eq hf _

theorem hostDo_gfqAdd (rd rs1 rs2 : RegIdx) :
    hostDo (.gfqAdd rd rs1 rs2) s = .next (s.setReg rd (s.reg rs1 ^^^ s.reg rs2)) := hostDo_eq hf _

theorem hostDo_aesKexp (rs1 rs2 : RegIdx) :
    hostDo (.aesKexp rs1 rs2) s = .next (s.loadSchedule (keyExpand (s.reg rs1) (s.reg rs2))) := hostDo_eq hf _

theorem hostDo_aesEnc (hk : s.kv = true) (rd rs1 : RegIdx) :
    hostDo (.aesEnc rd rs1) s = .next (s.setReg rd (encrypt s.rk (s.reg rs1))) :=
  (hostDo_eq hf _).trans (guardKey_of_kv hk _)

theorem hostDo_ctrInc (rd rs1 : RegIdx) : hostDo (.ctrInc rd rs1) s = .next (s.setReg rd (ctrinc (s.reg rs1))) :=
  hostDo_eq hf _

theorem hostDo_pvStep (rd rs1 rs2 : RegIdx) :
    hostDo (.pvStep rd rs1 rs2) s = .next (s.setReg rd (pvstep (s.reg rd) (s.reg rs1) (s.reg rs2))) := hostDo_eq hf _

theorem hostDo_sivClr7 (rd rs1 : RegIdx) : hostDo (.sivClr7 rd rs1) s = .next (s.setReg rd (clr7 (s.reg rs1))) :=
  hostDo_eq hf _

theorem hostDo_sivSet7 (rd rs1 : RegIdx) : hostDo (.sivSet7 rd rs1) s = .next (s.setReg rd (set7 (s.reg rs1))) :=
  hostDo_eq hf _

theorem hostDo_sivCmp (rd rs1 rs2 : RegIdx) :
    hostDo (.sivCmp rd rs1 rs2) s = .next (s.setReg rd ((tagdiff (s.reg rs1) (s.reg rs2)).setWidth 128)) :=
  hostDo_eq hf _

end

/-! ### What the tag and CTR sequences keep -/

/-- The hash key in `V4`, the tag in `V7`, the schedule, the fault flag and the moves still to come are as before. -/
structure Keeps (s t : State) : Prop where
  hashKey : t.reg 4 = s.reg 4
  tag : t.reg 7 = s.reg 7
  rk : t.rk = s.rk
  kv : t.kv = s.kv
  fault : t.fault = s.fault
  inbox : t.inbox = s.inbox

theorem Keeps.refl (s : State) : Keeps s s := ⟨rfl, rfl, rfl, rfl, rfl, rfl⟩

theorem Keeps.trans {s t u : State} (h : Keeps s t) (h' : Keeps t u) : Keeps s u :=
  ⟨h'.hashKey.trans h.hashKey, h'.tag.trans h.tag, h'.rk.trans h.rk, h'.kv.trans h.kv, h'.fault.trans h.fault,
    h'.inbox.trans h.inbox⟩

/-! ### Tag (R383) -/

/-- The state after one block of the POLYVAL loop. -/
def State.absorbed (s : State) (b : List Byte) : State :=
  ((s.setDin (blk b)).setReg 6 (blk b)).setReg 5 (pvstep (s.reg 5) (blk b) (s.reg 4))

theorem hostAbsorb_cons (b : List Byte) (bs : List (List Byte)) {s : State} (hf : s.fault = false) :
    hostAbsorb (b :: bs) s = hostAbsorb bs (s.absorbed b) := by
  simp [hostAbsorb, hostLoad_eq, hostDo_pvStep, hf, reg_setReg, State.absorbed]

theorem keeps_absorbed (s : State) (b : List Byte) : Keeps s (s.absorbed b) := by
  constructor <;> simp [State.absorbed, reg_setReg]

theorem reg5_absorbed (s : State) (b : List Byte) :
    (s.absorbed b).reg 5 = pvstep (s.reg 5) (blk b) (s.reg 4) := reg_setReg_same _ _ _

theorem polyvalFrom_cons (h acc : Block) (b : List Byte) (bs : List (List Byte)) :
    polyvalFrom h acc (b :: bs) = polyvalFrom h (pvstep acc (blk b) h) bs := List.foldl_cons ..

/-- The POLYVAL loop: `V5` absorbs the blocks under the key in `V4`. -/
theorem hostAbsorb_spec (bs : List (List Byte)) {s : State} (hf : s.fault = false) :
    ∃ t, hostAbsorb bs s = .next t ∧ t.reg 5 = polyvalFrom (s.reg 4) (s.reg 5) bs ∧ Keeps s t := by
  induction bs generalizing s with
  | nil => exact ⟨s, rfl, rfl, .refl s⟩
  | cons b bs ih =>
    have hkeep := keeps_absorbed s b
    obtain ⟨t, ht, h5, hkeep'⟩ := ih (hkeep.fault.trans hf)
    refine ⟨t, (hostAbsorb_cons b bs hf).trans ht, ?_, hkeep.trans hkeep'⟩
    rw [h5, hkeep.hashKey, reg5_absorbed, polyvalFrom_cons]

/-- The state after the commands that make a tag of the digest in `V5`. -/
def State.tagged (s : State) (n : List Byte) : State :=
  let digest := s.reg 5 ^^^ nonceblk n
  ((((s.setDin (nonceblk n)).setReg 6 (nonceblk n)).setReg 5 digest).setReg 5 (clr7 digest)).setReg 3
    (encrypt s.rk (clr7 digest))

theorem keeps_tagged (s : State) (n : List Byte) : Keeps s (s.tagged n) := by
  constructor <;> simp [State.tagged, reg_setReg]

/-- The tag sequence leaves `sivtag` in `V3`. -/
theorem hostTag_spec (n a p : List Byte) {s : State} (hf : s.fault = false) (hk : s.kv = true) :
    ∃ t, hostTag n a p s = .next t ∧ t.reg 3 = sivtag (s.reg 4) s.rk n a p ∧ Keeps s t := by
  have hclear : Keeps s (s.setReg 5 0#128) := by constructor <;> simp [reg_setReg]
  obtain ⟨u, hu, h5, hkeep⟩ := hostAbsorb_spec (strides ((sivInput a p).length / 16) (sivInput a p))
    (s := s.setReg 5 0#128) hf
  replace hkeep := hclear.trans hkeep
  have hfu : u.fault = false := hkeep.fault.trans hf
  have hku : u.kv = true := hkeep.kv.trans hk
  have hdigest : u.reg 5 = blk (polyval (s.reg 4) (sivInput a p)) := by
    rw [h5, hclear.hashKey, reg_setReg_same, polyval, blk_bytesOf, BitVec.ofNat_eq_ofNat]
  refine ⟨u.tagged n, ?_, ?_, hkeep.trans (keeps_tagged u n)⟩
  · simp [hostTag, hostDo_gfqAdd, hostLoad_eq, hostDo_sivClr7, hostDo_aesEnc, hf, hfu, hku, hu, reg_setReg, nonceblk,
      State.tagged]
  · simp [State.tagged, sivtag, hdigest, hkeep.rk]

/-! ### CTR (R384) -/

/-- The state after one stride of the CTR loop. -/
def State.streamed (s : State) (m : List Byte) : State :=
  let key := encrypt s.rk (s.reg 2)
  let out := blk m ^^^ key
  (((((s.setReg 3 key).setDin (blk m)).setReg 6 (blk m)).setReg 6 out).setDout out).setReg 2 (ctrinc (s.reg 2))

theorem keeps_streamed (s : State) (m : List Byte) : Keeps s (s.streamed m) := by
  constructor <;> simp [State.streamed, reg_setReg]

theorem reg2_streamed (s : State) (m : List Byte) : (s.streamed m).reg 2 = ctrinc (s.reg 2) := reg_setReg_same _ _ _

theorem hostCtrStrides_cons {m : List Byte} (hm : m.length ≤ 16) (ms : List (List Byte)) {s : State}
    (hf : s.fault = false) (hk : s.kv = true) :
    hostCtrStrides (m :: ms) s = andThen (hostCtrStrides ms (s.streamed m)) fun more =>
      .next (xorBytes m (bytesOf (encrypt s.rk (s.reg 2))) ++ more.1, more.2) := by
  rw [← take_bytesOf_blk_xor hm]
  simp [hostCtrStrides, hostDo_aesEnc, hostLoad_eq, hostDo_gfqAdd, hostStore_eq, hostDo_ctrInc, hf, hk, reg_setReg,
    State.streamed]

/-- The CTR loop computes `ctrStrides` from the counter block in `V2`, for strides of at most one block. -/
theorem hostCtrStrides_spec (ms : List (List Byte)) (hlen : ∀ m ∈ ms, m.length ≤ 16) {s : State}
    (hf : s.fault = false) (hk : s.kv = true) :
    ∃ t, hostCtrStrides ms s = .next (ctrStrides s.rk (s.reg 2) ms, t) ∧ Keeps s t := by
  induction ms generalizing s with
  | nil => exact ⟨s, rfl, .refl s⟩
  | cons m ms ih =>
    obtain ⟨hm, hms⟩ := List.forall_mem_cons.mp hlen
    have hkeep := keeps_streamed s m
    obtain ⟨t, ht, hkeep'⟩ := ih hms (hkeep.fault.trans hf) (hkeep.kv.trans hk)
    refine ⟨t, ?_, hkeep.trans hkeep'⟩
    rw [hostCtrStrides_cons hm ms hf hk, ht, hkeep.rk, reg2_streamed]
    rfl

theorem hostCtr_spec (m : List Byte) {s : State} (hf : s.fault = false) (hk : s.kv = true) :
    ∃ t, hostCtr m s = .next (ctr s.rk (s.reg 2) m, t) ∧ Keeps s t :=
  hostCtrStrides_spec _ (fun _ => length_le_of_mem_strides) hf hk

/-! ### Key derivation (R381) and set-up (R382) -/

/-- The state after one block of the derivation loop. -/
def State.derived (s : State) : State :=
  let e := encrypt s.rk (s.reg 2)
  ((s.setReg 3 e).setDout e).setReg 2 (ctrinc (s.reg 2))

theorem keeps_derived (s : State) : Keeps s s.derived := by
  constructor <;> simp [State.derived, reg_setReg]

theorem reg2_derived (s : State) : s.derived.reg 2 = ctrinc (s.reg 2) := reg_setReg_same _ _ _

theorem hostDeriveBlocks_succ (m : Nat) {s : State} (hf : s.fault = false) (hk : s.kv = true) :
    hostDeriveBlocks (m + 1) s = andThen (hostDeriveBlocks m s.derived) fun more =>
      .next ((bytesOf (encrypt s.rk (s.reg 2))).take 8 ++ more.1, more.2) := by
  simp [hostDeriveBlocks, hostDo_aesEnc, hostStore_eq, hostDo_ctrInc, hf, hk, reg_setReg, State.derived]

/-- The derivation loop from counter `i` on: `m` pieces of the derived keys. -/
theorem hostDeriveBlocks_spec (n : List Byte) (m i : Nat) {s : State} (hf : s.fault = false) (hk : s.kv = true)
    (h2 : s.reg 2 = blk (le32 i ++ n)) :
    ∃ t, hostDeriveBlocks m s = .next ((List.range' i m).flatMap (derivedPiece s.rk n), t) ∧ Keeps s t := by
  induction m generalizing i s with
  | zero => exact ⟨s, rfl, .refl s⟩
  | succ m ih =>
    have hkeep := keeps_derived s
    have h2' : s.derived.reg 2 = blk (le32 (i + 1) ++ n) := by rw [reg2_derived, h2, ctrinc_blk_le32]
    obtain ⟨t, ht, hkeep'⟩ := ih (i + 1) (hkeep.fault.trans hf) (hkeep.kv.trans hk) h2'
    refine ⟨t, ?_, hkeep.trans hkeep'⟩
    rw [hostDeriveBlocks_succ m hf hk, ht, hkeep.rk, List.range'_succ, List.flatMap_cons, derivedPiece, ← h2]
    rfl

@[simp] theorem length_derivedPiece (rk : Vector Word32 Config.nRk) (n : List Byte) (i : Nat) :
    (derivedPiece rk n i).length = 8 := by
  simp [derivedPiece]

/-- Six 8-byte pieces in a row, cut after the second. -/
theorem split_six_pieces {piece : Nat → List Byte} (h : ∀ i, (piece i).length = 8) :
    ((List.range' 0 6).flatMap piece).take 16 = piece 0 ++ piece 1 ∧
      ((List.range' 0 6).flatMap piece).drop 16 = piece 2 ++ piece 3 ++ piece 4 ++ piece 5 := by
  have hpieces : (List.range' 0 6).flatMap piece =
      (piece 0 ++ piece 1) ++ (piece 2 ++ piece 3 ++ piece 4 ++ piece 5) := by
    simp [List.range']
  have hlen : (piece 0 ++ piece 1).length = 16 := by simp [h]
  rw [hpieces]
  exact ⟨List.take_left' hlen, List.drop_left' hlen⟩

/-- The state after a 32-byte key is loaded in `V0` and `V1` and expanded. -/
def State.keyed (s : State) (k : List Byte) : State :=
  ((((s.setDin (blk (k.take 16))).setReg 0 (blk (k.take 16))).setDin (blk ((k.drop 16).take 16))).setReg 1
    (blk ((k.drop 16).take 16))).loadSchedule (keyexpand k)

/-- The key derivation sequence computes `derive` and leaves the master key's schedule in `RK`. -/
theorem hostDerive_spec (k n : List Byte) {s : State} (hf : s.fault = false) :
    ∃ t, hostDerive k n s = .next (derive k n, t) ∧ t.fault = false ∧ t.kv = true ∧ t.rk = keyexpand k ∧
      t.inbox = s.inbox := by
  obtain ⟨t, ht, hkeep⟩ := hostDeriveBlocks_spec n 6 0
    (s := ((s.keyed k).setDin (blk (le32 0 ++ n))).setReg 2 (blk (le32 0 ++ n))) hf rfl (reg_setReg_same _ _ _)
  refine ⟨t, ?_, hkeep.fault.trans hf, hkeep.kv, hkeep.rk, hkeep.inbox⟩
  obtain ⟨hauth, henc⟩ := split_six_pieces (length_derivedPiece (keyexpand k) n)
  rw [derive, ← hauth, ← henc]
  have hrun : hostDerive k n s = andThen (hostDeriveBlocks 6 (((s.keyed k).setDin (blk (le32 0 ++ n))).setReg 2
      (blk (le32 0 ++ n)))) fun e => .next ((e.1.take 16, e.1.drop 16), e.2) := by
    simp [hostDerive, hostLoad_eq, hostDo_aesKexp, hf, reg_setReg, keyexpand, State.keyed]
  rw [hrun, ht]
  rfl

/-- The set-up sequence leaves the hash key in `V4` and the encryption key's schedule in `RK`. -/
theorem hostSetup_spec (authKey encKey : List Byte) {s : State} (hf : s.fault = false) :
    ∃ t, hostSetup authKey encKey s = .next t ∧ t.reg 4 = blk authKey ∧ t.rk = keyexpand encKey ∧ t.kv = true ∧
      t.fault = false ∧ t.inbox = s.inbox := by
  refine ⟨((s.setDin (blk authKey)).setReg 4 (blk authKey)).keyed encKey, ?_, ?_, rfl, rfl, hf, rfl⟩
  · simp [hostSetup, hostLoad_eq, hostDo_aesKexp, hf, reg_setReg, State.keyed, keyexpand]
  · simp [State.keyed, reg_setReg]

end Sys2Proof.Machine
end

section
/-! PROOFS. The host's two entry points (49_composition.md R385, R386), assembled from the sequences they run. -/

namespace Sys2Proof.Machine

/-! ### Encryption (R385) -/

/-- The state after a tag is moved to `V7`, stored, and made the first counter block. -/
def State.tagStored (s : State) (tag : Block) : State := ((s.setReg 7 tag).setDout tag).setReg 2 (set7 tag)

theorem hostSivEncrypt_spec (k n p a : List Byte) {s : State} (hf : s.fault = false) :
    ∃ t, hostSivEncrypt k n p a s = .next (sivEncrypt k n p a, t) ∧ t.fault = false ∧ t.inbox = s.inbox := by
  obtain ⟨s1, hderive, hf1, -, -, hin1⟩ := hostDerive_spec k n hf
  obtain ⟨s2, hsetup, hkey, hrk, hk2, hf2, hin2⟩ := hostSetup_spec (derive k n).1 (derive k n).2 hf1
  obtain ⟨s3, htag, h3, hkeep⟩ := hostTag_spec n a p hf2 hk2
  rw [hkey, hrk] at h3
  have hf3 : s3.fault = false := hkeep.fault.trans hf2
  obtain ⟨t, hctr, hkeep'⟩ := hostCtr_spec p (s := s3.tagStored (s3.reg 3)) hf3 (hkeep.kv.trans hk2)
  have hrk3 : (s3.tagStored (s3.reg 3)).rk = keyexpand (derive k n).2 := hkeep.rk.trans hrk
  have h2 : (s3.tagStored (s3.reg 3)).reg 2 = set7 (s3.reg 3) := reg_setReg_same _ _ _
  refine ⟨t, ?_, hkeep'.fault.trans hf3, hkeep'.inbox.trans (hkeep.inbox.trans (hin2.trans hin1))⟩
  have hrun : hostSivEncrypt k n p a s =
      andThen (hostCtr p (s3.tagStored (s3.reg 3))) fun c => .next (c.1 ++ bytesOf (s3.reg 3), c.2) := by
    simp [hostSivEncrypt, hderive, hsetup, htag, hostDo_sysMov, hostStore_eq, hostDo_sivSet7, hf3, State.tagStored]
  rw [hrun, hctr, hrk3, h2, h3]
  rfl

/-! ### Decryption (R386) -/

/-- `siv_decrypt` of an input whose last 16 bytes are `tag` and whose other bytes decrypt to `p` (R361). -/
theorem sivDecrypt_append {k n c tag p : List Byte} (a : List Byte) (htag : tag.length = 16)
    (hp : ctr (keyexpand (derive k n).2) (set7 (blk tag)) c = p) :
    sivDecrypt k n (c ++ tag) a =
      if tagdiff (blk tag) (sivtag (blk (derive k n).1) (keyexpand (derive k n).2) n a p) = 0 then .plaintext p
      else .failure := by
  have hlen : (c ++ tag).length - Config.tagBytes = c.length := by simp [htag]
  have hshort : ¬ (c ++ tag).length < Config.tagBytes := by simp [htag]
  simp only [sivDecrypt, if_neg hshort, hlen, List.take_left, List.drop_left, hp]

/-- The state after the received tag is loaded in `V7` and made the first counter block. -/
def State.tagLoaded (s : State) (tag : Block) : State := ((s.setDin tag).setReg 7 tag).setReg 2 (set7 tag)

/-- The state after the tags in `V7` and `V3` are compared and the difference stored. -/
def State.compared (s : State) : State :=
  let diff := (tagdiff (s.reg 7) (s.reg 3)).setWidth 128
  (s.setReg 6 diff).setDout diff

theorem hostSivDecryptTagged_spec (k n c a : List Byte) {tag : List Byte} (htag : tag.length = 16) {s : State}
    (hf : s.fault = false) :
    ∃ t, hostSivDecryptTagged k n c tag a s = .next (sivDecrypt k n (c ++ tag) a, t) ∧ t.fault = false ∧
      t.inbox = s.inbox := by
  obtain ⟨s1, hderive, hf1, -, -, hin1⟩ := hostDerive_spec k n hf
  obtain ⟨s2, hsetup, hkey, hrk, hk2, hf2, hin2⟩ := hostSetup_spec (derive k n).1 (derive k n).2 hf1
  obtain ⟨s3, hctr, hkeep⟩ := hostCtr_spec c (s := s2.tagLoaded (blk tag)) hf2 hk2
  have h2 : (s2.tagLoaded (blk tag)).reg 2 = set7 (blk tag) := reg_setReg_same _ _ _
  have h4 : (s2.tagLoaded (blk tag)).reg 4 = s2.reg 4 := by simp [State.tagLoaded, reg_setReg]
  have h7 : (s2.tagLoaded (blk tag)).reg 7 = blk tag := by simp [State.tagLoaded, reg_setReg]
  have hrk2 : (s2.tagLoaded (blk tag)).rk = keyexpand (derive k n).2 := hrk
  rw [hrk2, h2] at hctr
  have hf3 : s3.fault = false := hkeep.fault.trans hf2
  obtain ⟨p, hp⟩ : ∃ p, ctr (keyexpand (derive k n).2) (set7 (blk tag)) c = p := ⟨_, rfl⟩
  rw [hp] at hctr
  obtain ⟨s4, hexp, h3, hkeep'⟩ := hostTag_spec n a p hf3 (hkeep.kv.trans hk2)
  rw [hkeep.hashKey, h4, hkey, hkeep.rk, hrk2] at h3
  have h7' : s4.reg 7 = blk tag := hkeep'.tag.trans (hkeep.tag.trans h7)
  have hf4 : s4.fault = false := hkeep'.fault.trans hf3
  refine ⟨s4.compared, ?_, hf4, hkeep'.inbox.trans (hkeep.inbox.trans (hin2.trans hin1))⟩
  have hrun : hostSivDecryptTagged k n c tag a s =
      andThen (hostDo (.sivCmp 6 7 3) s4) fun s5 => andThen (hostStore 6 s5) fun diff =>
        .next (if diff.1.all (· == 0) then .plaintext p else .failure, diff.2) := by
    simp only [State.tagLoaded] at hctr
    simp [hostSivDecryptTagged, hderive, hsetup, hostLoad_eq, hostDo_sivSet7, hf2, hctr, hexp]
  rw [hrun, sivDecrypt_append a htag hp, ← h3, ← h7']
  simp [hostDo_sivCmp, hostStore_eq, hf4, forall_bytesOf_setWidth_eq_zero, State.compared]

/-! ### What the host accepts (R353) -/

theorem hostAccepts_iff (k n msg a : List Byte) :
    hostAccepts k n msg a = true ↔ k.length = 32 ∧ n.length = 12 ∧ msg.length ≤ Config.maxMsgBytes.val ∧
      a.length ≤ Config.maxMsgBytes.val := by
  simp [hostAccepts, and_assoc]

theorem hostSivDecrypt_spec (k n input a : List Byte) {s : State} (hf : s.fault = false) :
    ∃ t, hostSivDecrypt k n input a s = .next (sivDecrypt k n input a, t) ∧ t.fault = false ∧ t.inbox = s.inbox := by
  by_cases hshort : input.length < Config.tagBytes
  · exact ⟨s, by rw [hostSivDecrypt, sivDecrypt, if_pos hshort, if_pos hshort], hf, rfl⟩
  · have htag : (input.drop (input.length - Config.tagBytes)).length = 16 := by
      have hlong : 16 ≤ input.length := Nat.le_of_not_lt hshort
      rw [List.length_drop, Nat.sub_sub_self hlong]
    obtain ⟨t, ht, hft, hin⟩ := hostSivDecryptTagged_spec k n (input.take (input.length - Config.tagBytes)) a htag hf
    rw [List.take_append_drop] at ht
    exact ⟨t, by rw [hostSivDecrypt, if_neg hshort, ht], hft, hin⟩

end Sys2Proof.Machine
end

section
/-! PROOFS. The statements about the host's entry points. -/

open Sys2Proof Sys2Proof.Machine

/-- Settles O56: the sequence of R385 computes `siv_encrypt`, and starts exactly on the lengths of R353. -/
theorem hostEncryptIsSivEncrypt : Obligations.HostEncryptIsSivEncrypt := by
  intro k n p a s hf
  constructor
  · intro hk hn hp ha
    obtain ⟨t, ht, hft, hin⟩ := hostSivEncrypt_spec k n p a hf
    exact ⟨t, by rw [hostEncrypt, if_pos ((hostAccepts_iff k n p a).mpr ⟨hk, hn, hp, ha⟩), ht], hft, hin⟩
  · intro hbad
    refine if_neg fun h => ?_
    obtain ⟨hk, hn, hp, ha⟩ := (hostAccepts_iff k n p a).mp h
    omega

/-- Settles O57: the sequence of R386 computes `siv_decrypt`, and starts exactly on the lengths of R353. -/
theorem hostDecryptIsSivDecrypt : Obligations.HostDecryptIsSivDecrypt := by
  intro k n input a s hf
  have hlen : (input.take (input.length - Config.tagBytes)).length = input.length - 16 := by
    rw [List.length_take, Nat.min_eq_left (Nat.sub_le _ _)]
  constructor
  · intro hk hn hp ha
    obtain ⟨t, ht, hft, hin⟩ := hostSivDecrypt_spec k n input a hf
    exact ⟨t, by rw [hostDecrypt, if_pos ((hostAccepts_iff ..).mpr ⟨hk, hn, hlen.trans_le hp, ha⟩), ht], hft, hin⟩
  · intro hbad
    refine if_neg fun h => ?_
    obtain ⟨hk, hn, hp, ha⟩ := (hostAccepts_iff ..).mp h
    rw [hlen] at hp
    omega
end

section
/-! PROOFS. The key schedule (44_aes_key.md R180 to R183): the words of `keyExpand` are the key and its recurrence. -/

namespace Sys2Proof.Machine

/-! ### The words of an expansion, newest first -/

theorem getD_drop_word (l : List Word32) (k m : Nat) : (l.drop k).getD m 0 = l.getD (k + m) 0 := by
  rw [List.getD_eq_getElem?_getD, List.getElem?_drop, List.getD_eq_getElem?_getD]

/-- Expansion only puts words in front of those already computed. -/
theorem drop_expandWords (n i : Nat) (words : List Word32) : (expandWords n i words).drop n = words := by
  induction n generalizing i words with
  | zero => rfl
  | succ n ih =>
    calc (expandWords (n + 1) i words).drop (n + 1)
        = ((expandWords n (i + 1) (nextWord i words :: words)).drop n).drop 1 := by rw [List.drop_drop, expandWords]
      _ = words := by rw [ih, List.drop_succ_cons, List.drop_zero]

theorem getD_expandWords_add (n i m : Nat) (words : List Word32) :
    (expandWords n i words).getD (n + m) 0 = words.getD m 0 := by
  rw [← getD_drop_word, drop_expandWords]

/-- Each new word is `nextWord` of the words before it. -/
theorem getD_expandWords {n m : Nat} (hm : m < n) (i : Nat) (words : List Word32) :
    (expandWords n i words).getD m 0 = nextWord (i + (n - 1 - m)) ((expandWords n i words).drop (m + 1)) := by
  induction n generalizing i words with
  | zero => omega
  | succ n ih =>
    rw [expandWords]
    rcases Nat.lt_succ_iff_lt_or_eq.mp hm with hlt | rfl
    · rw [ih hlt, show i + 1 + (n - 1 - m) = i + (n + 1 - 1 - m) by omega]
    · rw [← List.drop_drop, drop_expandWords]
      simpa using getD_expandWords_add m (i + 1) 0 (nextWord i words :: words)

/-! ### The words of a schedule -/

theorem rkWord_keyExpand (lo hi : Block) {n : Nat} (hn : n < 60) :
    rkWord (keyExpand lo hi) n = (expandWords 52 8 (keyWords lo hi)).getD (59 - n) 0 := by
  simp only [rkWord, keyExpand, Vector.getElem?_ofFn, dif_pos hn, Option.getD_some]

theorem getD_keyWords (lo hi : Block) {i : Nat} (h : i < 8) : (keyWords lo hi).getD (7 - i) 0 = keyWord lo hi i := by
  interval_cases i <;> rfl

/-- The first eight words are the key's (R180). -/
theorem rkWord_keyExpand_of_lt (lo hi : Block) {i : Nat} (h : i < 8) :
    rkWord (keyExpand lo hi) i = keyWord lo hi i := by
  rw [rkWord_keyExpand lo hi (by omega), show 59 - i = 52 + (7 - i) by omega, getD_expandWords_add, getD_keyWords lo hi h]

/-- The recurrence of R181. -/
theorem rkWord_keyExpand_of_ge (lo hi : Block) {i : Nat} (h8 : 8 ≤ i) (h60 : i < 60) :
    rkWord (keyExpand lo hi) i =
      rkWord (keyExpand lo hi) (i - 8) ^^^ scheduleTemp i (rkWord (keyExpand lo hi) (i - 1)) := by
  rw [rkWord_keyExpand lo hi h60, rkWord_keyExpand lo hi (by omega), rkWord_keyExpand lo hi (by omega),
    getD_expandWords (by omega), nextWord, vadd, getD_drop_word, getD_drop_word,
    show 8 + (52 - 1 - (59 - i)) = i by omega, show 59 - i + 1 + 7 = 59 - (i - 8) by omega,
    show 59 - i + 1 + 0 = 59 - (i - 1) by omega]

/-! ### The schedule as the statements write it -/

/-- A row of a block is the slice of its four bytes (00_scope.md R11). -/
theorem row_eq_vec_bytes (v : Block) (i : Nat) :
    row v i = vec (byte v (4 * i)) (byte v (4 * i + 1)) (byte v (4 * i + 2)) (byte v (4 * i + 3)) := by
  rw [← vec_elem (row v i)]
  simp only [elem_row, Nat.reduceLT, Nat.add_zero]

/-- `RCON[j] = x^(j-1)` (10_state.md R43). -/
theorem rcon_eq_power {j : Nat} (h1 : 1 ≤ j) (h10 : j ≤ 10) : rcon j = power 0x02#8 (j - 1) := by
  interval_cases j <;> decide

theorem isSchedule_keyExpand (lo hi : Block) : IsSchedule lo hi (rkWord (keyExpand lo hi)) := by
  refine ⟨fun i h => ?_, fun i h => ?_, fun i h8 h60 => ?_⟩
  · rw [rkWord_keyExpand_of_lt lo hi (by omega), keyWord, if_pos h, row_eq_vec_bytes]
  · rw [rkWord_keyExpand_of_lt lo hi (by omega), keyWord, if_neg (by omega), Nat.add_sub_cancel_left, row_eq_vec_bytes]
  · rw [rkWord_keyExpand_of_ge lo hi h8 h60, scheduleTemp]
    refine ⟨fun h0 => ?_, fun h4 => ?_, fun h0 h4 => ?_⟩
    · rw [if_pos h0, rconword, rcon_eq_power (by omega) (by omega)]
    · rw [if_neg (by omega), if_pos h4]
    · rw [if_neg h0, if_neg h4]

end Sys2Proof.Machine
end

section
/-! PROOFS. What a step keeps: the invariant, and the elements that only one command writes. -/

namespace Sys2Proof.Machine

/-! ### The invariant under each update -/

/-- The decoder raises only the first two causes (30_encoding.md R77). -/
theorem decode_ne_keyNotValid (w : Word32) : decode w ≠ .error .keyNotValid := by
  cases hrow : rowOf (opField w) with
  | none => rw [decode_error_of_no_row hrow]; nofun
  | some row => rw [decode_of_row hrow]; split <;> nofun

theorem invariant_reset : Invariant State.reset := ⟨fun _ => rfl, nofun, nofun, fun _ => rfl, fun _ => rfl⟩

/-- The invariant speaks of `RK`, `KV`, `FAULT` and `CAUSE` only. -/
theorem Invariant.of_same {s t : State} (h : Invariant s) (hrk : t.rk = s.rk) (hkv : t.kv = s.kv)
    (hf : t.fault = s.fault) (hc : t.cause = s.cause) : Invariant t := by
  rwa [Invariant, hrk, hkv, hf, hc]

theorem causeCode_range (c : FaultCause) : 1 ≤ (causeCode c).toNat ∧ (causeCode c).toNat ≤ 4 := by
  cases c <;> decide

theorem causeCode_eq_four {c : FaultCause} (h : causeCode c = 4) : c = .keyNotValid := by
  revert h; cases c <;> decide

/-- Recording a fault keeps the invariant, as long as `KEY_NOT_VALID` is recorded with `KV = 0` only. -/
theorem Invariant.recordFault {s : State} {c : FaultCause} (h : Invariant s) (hc : c = .keyNotValid → s.kv = false) :
    Invariant (s.recordFault c) := by
  obtain ⟨-, -, hkv, hrk, -⟩ := h
  exact ⟨nofun, fun _ => causeCode_range c, hkv, hrk, fun h4 => hc (causeCode_eq_four h4)⟩

/-- While `FAULT = 0`, `CAUSE` is 0, so `KV` may be set. -/
theorem Invariant.loadSchedule {s : State} {w : Vector Word32 Config.nRk} (h : Invariant s) (hf : s.fault = false)
    (hw : ∃ lo hi, w = keyExpand lo hi) : Invariant (s.loadSchedule w) := by
  obtain ⟨h0, h1, -, -, -⟩ := h
  refine ⟨h0, h1, fun _ => hw, nofun, fun h4 => ?_⟩
  rw [loadSchedule_cause, h0 hf] at h4
  cases h4

/-- Every command executed while `FAULT = 0` keeps the invariant. -/
theorem Invariant.exec {i : Instr} {s t : State} (h : Invariant s) (hf : s.fault = false) (ht : exec i s = .next t) :
    Invariant t := by
  rcases exec_cases i s with ⟨rd, x, -, -, -, he⟩ | ⟨-, he⟩ | ⟨rs1, -, he⟩ | ⟨rs1, rs2, -, he⟩ | ⟨-, he⟩ |
    ⟨-, -, hkv, he⟩ <;> obtain rfl := Host.Outcome.next.inj (he.symm.trans ht)
  · exact h.of_same rfl rfl rfl rfl
  · exact h
  · exact h.of_same rfl rfl rfl rfl
  · exact h.loadSchedule hf ⟨_, _, rfl⟩
  · exact h.recordFault nofun
  · exact h.recordFault fun _ => hkv

/-- The port changes nothing of which the invariant speaks. -/
theorem Invariant.atPort {s : State} (h : Invariant s) (rest : List HostMove) (d : Block) :
    Invariant ((s.takeMove rest).setDin d) :=
  h.of_same rfl rfl rfl rfl

theorem Invariant.step {s t : State} (h : Invariant s) (ht : step s = .next t) : Invariant t := by
  rcases step_cases s with ⟨-, hs⟩ | ⟨rest, -, hs⟩ | ⟨w, d, rest, -, -, hs⟩ | ⟨w, d, rest, c, -, -, hd, hs⟩ |
    ⟨w, d, rest, i, -, hf, -, hs⟩ <;> rw [hs] at ht
  · exact Host.Outcome.next.inj ht ▸ h
  · exact Host.Outcome.next.inj ht ▸ invariant_reset.of_same rfl rfl rfl rfl
  · exact Host.Outcome.next.inj ht ▸ h.atPort rest d
  · refine Host.Outcome.next.inj ht ▸ (h.atPort rest d).recordFault fun hc => ?_
    exact absurd (hc ▸ hd) (decode_ne_keyNotValid w)
  · exact (h.atPort rest d).exec hf ht

/-! ### What only a command changes -/

/-- A step that neither resets nor executes a command keeps `RK`, `KV` and `DOUT`. -/
theorem step_reset_or_same_or_exec {s t : State} (ht : step s = .next t) :
    (∃ rest, s.inbox = .reset :: rest) ∨ (t.rk = s.rk ∧ t.kv = s.kv ∧ t.dout = s.dout) ∨
    ∃ w d rest i, s.inbox = .command w d :: rest ∧ s.fault = false ∧ decode w = .ok i ∧
      exec i ((s.takeMove rest).setDin d) = .next t := by
  rcases step_cases s with ⟨-, hs⟩ | ⟨rest, hin, -⟩ | ⟨w, d, rest, -, -, hs⟩ | ⟨w, d, rest, c, -, -, -, hs⟩ |
    ⟨w, d, rest, i, hin, hf, hd, hs⟩
  · exact .inr (.inl (Host.Outcome.next.inj (hs.symm.trans ht) ▸ ⟨rfl, rfl, rfl⟩))
  · exact .inl ⟨rest, hin⟩
  · exact .inr (.inl (Host.Outcome.next.inj (hs.symm.trans ht) ▸ ⟨rfl, rfl, rfl⟩))
  · exact .inr (.inl (Host.Outcome.next.inj (hs.symm.trans ht) ▸ ⟨rfl, rfl, rfl⟩))
  · exact .inr (.inr ⟨w, d, rest, i, hin, hf, hd, hs.symm.trans ht⟩)

/-- Only `AES.KEXP` writes the schedule (10_state.md R31). -/
theorem exec_keeps_schedule_or_aesKexp {i : Instr} {s t : State} (ht : exec i s = .next t) :
    (t.rk = s.rk ∧ t.kv = s.kv) ∨
    ∃ rs1 rs2, i = .aesKexp rs1 rs2 ∧ t = s.loadSchedule (keyExpand (s.reg rs1) (s.reg rs2)) := by
  by_cases hi : ∃ rs1 rs2, i = .aesKexp rs1 rs2
  · obtain ⟨rs1, rs2, rfl⟩ := hi
    exact .inr ⟨rs1, rs2, rfl, (Host.Outcome.next.inj ht).symm⟩
  · obtain ⟨e, he, h⟩ := exec_effect i s
    obtain rfl : e.apply s = t := Host.Outcome.next.inj (h.symm.trans ht)
    exact .inl (Effect.schedule_apply_of_ne_aesKexp he s fun rs1 rs2 h => hi ⟨rs1, rs2, h⟩)

/-- Only `SYS.ST` writes `DOUT` (10_state.md R37). -/
theorem exec_keeps_dout_or_sysSt {i : Instr} {s t : State} (ht : exec i s = .next t) :
    t.dout = s.dout ∨ ∃ rs1, i = .sysSt rs1 ∧ t = s.setDout (s.reg rs1) := by
  by_cases hi : ∃ rs1, i = .sysSt rs1
  · obtain ⟨rs1, rfl⟩ := hi
    exact .inr ⟨rs1, rfl, (Host.Outcome.next.inj ht).symm⟩
  · obtain ⟨e, he, h⟩ := exec_effect i s
    obtain rfl : e.apply s = t := Host.Outcome.next.inj (h.symm.trans ht)
    exact .inl (Effect.dout_apply_of_ne_sysSt he s fun rs1 h => hi ⟨rs1, h⟩)

/-! ### Narrow results (10_state.md R22) -/

/-- Both answers are next states with one value below `2^k` in `V[rd]`. -/
def AgreeBelow (k : Nat) (rd : RegIdx) (o1 o2 : Result) : Prop :=
  ∃ t1 t2, o1 = .next t1 ∧ o2 = .next t2 ∧ t1.reg rd = t2.reg rd ∧ (t1.reg rd).toNat < 2 ^ k

/-- A value of `w` bits, zero-extended into a register, is below `2^w`. -/
theorem agreeBelow_writeBlock_setWidth {w k : Nat} (hk : w ≤ k) (rd : RegIdx) (s1 s2 : State) {e1 e2 : BitVec w}
    (h : e1 = e2) : AgreeBelow k rd (writeBlock rd (e1.setWidth 128) s1) (writeBlock rd (e2.setWidth 128) s2) := by
  refine ⟨_, _, rfl, rfl, by simp [h], ?_⟩
  rw [reg_setReg_same]
  calc (e1.setWidth 128).toNat ≤ e1.toNat := by rw [BitVec.toNat_setWidth]; exact Nat.mod_le _ _
    _ < 2 ^ w := e1.isLt
    _ ≤ 2 ^ k := Nat.pow_le_pow_right (by decide) hk

theorem agreeBelow_writeByte {k : Nat} (hk : 8 ≤ k) {rd : RegIdx} {s1 s2 : State} {e1 e2 : Byte} (h : e1 = e2) :
    AgreeBelow k rd (writeByte rd e1 s1) (writeByte rd e2 s2) :=
  agreeBelow_writeBlock_setWidth hk rd s1 s2 h

theorem agreeBelow_writeWord {rd : RegIdx} {s1 s2 : State} {w1 w2 : Word32} (h : w1 = w2) :
    AgreeBelow 32 rd (writeWord rd w1 s1) (writeWord rd w2 s2) :=
  agreeBelow_writeBlock_setWidth le_rfl rd s1 s2 h

theorem AgreeBelow.guardImm {k : Nat} {rd : RegIdx} {o1 o2 : Result} {legal : Bool} (hl : legal = true) (s1 s2 : State)
    (h : AgreeBelow k rd o1 o2) : AgreeBelow k rd (guardImm legal s1 o1) (guardImm legal s2 o2) := by
  rwa [hl, guardImm_true, guardImm_true]

/-- The scalar commands read `b0` of their sources (10_state.md R21). -/
theorem exec_gf8_agreeBelow {s1 s2 : State} (h : ∀ r, readByte r s1 = readByte r s2) (rd rs1 rs2 : RegIdx) (n : Imm8) :
    ∀ i ∈ [Instr.gf8Add rd rs1 rs2, .gf8Xt rd rs1, .gf8Mul rd rs1 rs2, .gf8Pow rd rs1 n, .gf8Inv rd rs1,
      .gf8Sbox rd rs1, .gf8Isbox rd rs1], AgreeBelow 8 rd (exec i s1) (exec i s2) := by
  simp only [List.forall_mem_cons, List.not_mem_nil, false_imp_iff, implies_true, and_true]
  refine ⟨?_, ?_, ?_, ?_, ?_, ?_, ?_⟩ <;> exact agreeBelow_writeByte le_rfl (by simp only [h])

/-- The vector commands with no immediate check and no whole source read `w0` of their sources (10_state.md R21). -/
theorem exec_gfv_agreeBelow {s1 s2 : State} (h : ∀ r, readWord r s1 = readWord r s2) (rd rs1 rs2 : RegIdx) (n : Imm8) :
    ∀ i ∈ [Instr.gfvAdd rd rs1 rs2, .gfvRotl rd rs1 n, .gfvDot rd rs1 rs2, .gfvSubw rd rs1],
      AgreeBelow 32 rd (exec i s1) (exec i s2) := by
  simp only [List.forall_mem_cons, List.not_mem_nil, false_imp_iff, implies_true, and_true]
  refine ⟨agreeBelow_writeWord ?_, agreeBelow_writeWord ?_, agreeBelow_writeByte (by decide) ?_,
    agreeBelow_writeWord ?_⟩ <;> simp only [h]

theorem exec_gfvRcon_agreeBelow {s1 s2 : State} (h : ∀ r, readWord r s1 = readWord r s2) (rd rs1 : RegIdx) {j : Imm8}
    (hj : rconIndexLegal j = true) : AgreeBelow 32 rd (exec (.gfvRcon rd rs1 j) s1) (exec (.gfvRcon rd rs1 j) s2) :=
  .guardImm hj s1 s2 (agreeBelow_writeWord (by rw [h]))

/-- `GFM.MULV` reads its matrix whole and `w0` of its vector (42_gf256_vec.md R135). -/
theorem exec_gfmMulv_agreeBelow {s1 s2 : State} (h : ∀ r, readWord r s1 = readWord r s2) (rd : RegIdx)
    {rs1 : RegIdx} (hm : readBlock rs1 s1 = readBlock rs1 s2) (rs2 : RegIdx) :
    AgreeBelow 32 rd (exec (.gfmMulv rd rs1 rs2) s1) (exec (.gfmMulv rd rs1 rs2) s2) :=
  agreeBelow_writeWord (by rw [hm, h])

end Sys2Proof.Machine
end

section
/-! PROOFS. The statements about the state and what every step keeps of it. -/

open Sys2Proof Sys2Proof.Machine

/-- Settles O19: each update a step can make keeps the invariant. -/
theorem stepKeepsInvariant : Obligations.StepKeepsInvariant := fun _ _ h ht => h.step ht

/-- Settles O20: the command that changed `RK` or `KV` was `AES.KEXP`, whose words are the schedule of R181. -/
theorem keyScheduleWriters : Obligations.KeyScheduleWriters := by
  intro s t ht hne
  rcases step_reset_or_same_or_exec ht with hreset | ⟨hrk, hkv, -⟩ | ⟨w, d, rest, i, hin, hf, hd, he⟩
  · exact .inl hreset
  · exact absurd hne (by simp [hrk, hkv])
  · rcases exec_keeps_schedule_or_aesKexp he with ⟨hrk, hkv⟩ | ⟨rs1, rs2, rfl, rfl⟩
    · exact absurd hne (by simp [hrk, hkv])
    · exact .inr ⟨w, d, rest, rs1, rs2, hin, hf, hd, rfl, isSchedule_keyExpand _ _⟩

/-- Settles O21: the command that changed `DOUT` was `SYS.ST`. -/
theorem doutWriters : Obligations.DoutWriters := by
  intro s t ht hne
  rcases step_reset_or_same_or_exec ht with hreset | ⟨-, -, hdout⟩ | ⟨w, d, rest, i, hin, hf, hd, he⟩
  · exact .inl hreset
  · exact absurd hdout hne
  · rcases exec_keeps_dout_or_sysSt he with hdout | ⟨rs1, rfl, rfl⟩
    · exact absurd hdout hne
    · exact .inr ⟨w, d, rest, rs1, hin, hf, hd, rfl⟩

/-- Settles O26: each command zero-extends a function of the narrow views it reads. -/
theorem narrowOperands : Obligations.NarrowOperands := by
  intro s1 s2 rd rs1 rs2 n
  exact ⟨fun h => exec_gf8_agreeBelow h rd rs1 rs2 n, fun h => exec_gfv_agreeBelow h rd rs1 rs2 n,
    fun h h1 h10 => exec_gfvRcon_agreeBelow h rd rs1 (decide_eq_true ⟨h1, h10⟩),
    fun h hm => exec_gfmMulv_agreeBelow h rd hm rs2⟩

/-- Settles O12: the port refuses the word, and `DIN` is no element of the state. -/
theorem faultedStepRefuses : Obligations.FaultedStepRefuses := by
  intro s w d rest hf hin
  refine ⟨(s.takeMove rest).setDin d, ?_, ⟨fun _ => rfl, rfl, rfl, rfl, rfl, rfl⟩, rfl⟩
  exact (step_command hin).trans (issueWord_faulted (by simpa using hf) w)

/-- Settles O15. -/
theorem resetValues : Obligations.ResetValues :=
  ⟨reg_reset, fun n => by simp, rfl, rfl, rfl, rfl, rfl⟩

/-- Settles O17, bit by bit: the three flags stand in disjoint fields. -/
theorem statusLayout : Obligations.StatusLayout := by
  intro s
  refine ⟨?_, ?_, ?_, ?_⟩
  · simp [State.status]
  · simp [State.status]
  · ext i hi
    interval_cases i <;> simp [State.status]
  · ext i hi
    interval_cases i <;> simp [State.status, BitVec.getLsbD_eq_getElem]

/-- Settles O18. -/
theorem invariantAtReset : Obligations.InvariantAtReset := invariant_reset
end

section
/-! PROOFS. What a step does with `DIN` (20_memory.md R67): outside `SYS.LD` the effect does not depend on it. -/

namespace Sys2Proof.Machine

/-- An effect carries the value it writes, so it keeps two states equal in the six elements. -/
theorem SameCore.apply {s t : State} (h : SameCore s t) (e : Effect) : SameCore (e.apply s) (e.apply t) := by
  obtain ⟨hreg, hrk, hkv, hfault, hcause, hdout⟩ := h
  cases e with
  | nothing => exact ⟨hreg, hrk, hkv, hfault, hcause, hdout⟩
  | write rd x =>
    refine ⟨fun r => ?_, hrk, hkv, hfault, hcause, hdout⟩
    simp only [Effect.apply, reg_setReg, hreg]
  | output x => exact ⟨hreg, hrk, hkv, hfault, hcause, rfl⟩
  | schedule w => exact ⟨hreg, rfl, rfl, hfault, hcause, hdout⟩
  | fault c => exact ⟨hreg, hrk, hkv, rfl, rfl, hdout⟩

theorem sameCore_setDin (s : State) (d1 d2 : Block) : SameCore (s.setDin d1) (s.setDin d2) :=
  ⟨fun _ => rfl, rfl, rfl, rfl, rfl, rfl⟩

/-- Each command but `SYS.LD` computes the value it writes, and checks its guards, on fields that `setDin` keeps. -/
theorem exec_setDin_sameEffect {i : Instr} (hi : ∀ rd, i ≠ .sysLd rd) (s : State) (d1 d2 : Block) :
    SameEffect i (s.setDin d1) (s.setDin d2) (exec i (s.setDin d1)) (exec i (s.setDin d2)) := by
  cases i with
  | sysLd rd => exact absurd rfl (hi rd)
  | sysNop => exact ⟨.nothing, rfl, rfl, rfl⟩
  | sysSt rs1 => exact ⟨.output (s.reg rs1), ⟨rs1, rfl⟩, rfl, rfl⟩
  | aesKexp rs1 rs2 => exact ⟨.schedule (keyExpand (s.reg rs1) (s.reg rs2)), ⟨rs1, rs2, rfl⟩, rfl, rfl⟩
  | gfvRcon rd rs1 j => exact .guardImm _ (sameEffect_writeBlock rfl rfl)
  | aesRkrd rd r | aesArk rd rs1 r | aesEncr rd rs1 r | aesDecr rd rs1 r =>
    exact .guardImm _ (.guardKey rfl (sameEffect_writeBlock rfl rfl))
  | aesEncl rd rs1 | aesEnc rd rs1 | aesDecf rd rs1 | aesDec rd rs1 =>
    exact .guardKey rfl (sameEffect_writeBlock rfl rfl)
  | _ => exact sameEffect_writeBlock rfl rfl

/-- A word at the port that is no `SYS.LD` has one effect under any two `DIN` values: none when it is refused, its
decode fault, or that of its command. -/
theorem issueWord_setDin_effect {w : Word32} (hw : ∀ rd, decode w ≠ .ok (.sysLd rd)) (s : State) (d1 d2 : Block) :
    ∃ e : Effect, issueWord w (s.setDin d1) = .next (e.apply (s.setDin d1)) ∧
      issueWord w (s.setDin d2) = .next (e.apply (s.setDin d2)) := by
  cases hf : s.fault with
  | true =>
    have hf' (d : Block) : (s.setDin d).fault = true := hf
    exact ⟨.nothing, issueWord_faulted (hf' d1) w, issueWord_faulted (hf' d2) w⟩
  | false =>
    have hf' (d : Block) : (s.setDin d).fault = false := hf
    cases hd : decode w with
    | error c => exact ⟨.fault c, issueWord_error (hf' d1) hd, issueWord_error (hf' d2) hd⟩
    | ok i =>
      have hi : ∀ rd, i ≠ .sysLd rd := fun rd h => hw rd (h ▸ hd)
      obtain ⟨e, -, h1, h2⟩ := exec_setDin_sameEffect hi s d1 d2
      exact ⟨e, (issueWord_ok (hf' d1) hd).trans h1, (issueWord_ok (hf' d2) hd).trans h2⟩

/-- A command presented to the CORE is the next word issued, and its move is taken from the port again. -/
theorem step_present_command (s : State) (w : Word32) (d : Block) :
    step (s.present [.command w d]) = issueWord w (s.setDin d) :=
  step_command (s := s.present [.command w d]) (rest := s.inbox) rfl

end Sys2Proof.Machine
end

section
/-! PROOFS. The statement about `DIN`. -/

open Sys2Proof Sys2Proof.Machine

/-- Settles O22: the word has one effect under both `DIN` values, on two states that differ in `DIN` alone. -/
theorem dinReadOnlyByLd : Obligations.DinReadOnlyByLd := by
  intro s w d1 d2 t1 t2 hw ht1 ht2
  rw [step_present_command] at ht1 ht2
  obtain ⟨e, h1, h2⟩ := issueWord_setDin_effect hw s d1 d2
  obtain rfl : e.apply (s.setDin d1) = t1 := Host.Outcome.next.inj (h1.symm.trans ht1)
  obtain rfl : e.apply (s.setDin d2) = t2 := Host.Outcome.next.inj (h2.symm.trans ht2)
  exact (sameCore_setDin s d1 d2).apply e
end

section
/-! PROOFS. The words that decode: a word that meets its format's mask is zero in the fields the format has not, so it is
the word of the command it decodes to. -/

namespace Sys2Proof

/-! ### What the mask of a format leaves zero (R72) -/

/-- A field below `op` that the mask keeps whole is zero in a word that meets the mask. -/
theorem extractLsb'_eq_zero_of_mask {w m : Word32} {op : BitVec 8} (h : w &&& m = matchWord op) {lo len : Nat}
    (hlo : lo + len ≤ 24) (hm : m.extractLsb' lo len = BitVec.allOnes len) : w.extractLsb' lo len = 0 := by
  have hmatch : (matchWord op).extractLsb' lo len = 0 := by
    ext i hi
    simp [matchWord, show lo + i < 24 by omega]
  calc w.extractLsb' lo len = (w &&& m).extractLsb' lo len := by
        rw [BitVec.extractLsb'_and, hm, BitVec.and_allOnes]
    _ = 0 := by rw [h, hmatch]

section
variable {f : Format} {w : Word32} {op : BitVec 8} (h : w &&& f.mask = matchWord op)
include h

theorem rdField_eq_zero_of_mask (hf : f.mask.extractLsb' 21 3 = BitVec.allOnes 3) : rdField w = 0 :=
  congrArg BitVec.toFin (extractLsb'_eq_zero_of_mask h (by decide) hf)

theorem rs1Field_eq_zero_of_mask (hf : f.mask.extractLsb' 18 3 = BitVec.allOnes 3) : rs1Field w = 0 :=
  congrArg BitVec.toFin (extractLsb'_eq_zero_of_mask h (by decide) hf)

theorem rs2Field_eq_zero_of_mask (hf : f.mask.extractLsb' 15 3 = BitVec.allOnes 3) : rs2Field w = 0 :=
  congrArg BitVec.toFin (extractLsb'_eq_zero_of_mask h (by decide) hf)

theorem immField_eq_zero_of_mask (hf : f.mask.extractLsb' 0 8 = BitVec.allOnes 8) : immField w = 0 :=
  extractLsb'_eq_zero_of_mask h (by decide) hf

/-- `rsv` is zero in every command (R79), so the word is its other fields. -/
theorem packWord_fields_of_mask :
    packWord (opField w) (rdField w) (rs1Field w) (rs2Field w) (immField w) = w := by
  have hrsv : rsvField w = 0 := extractLsb'_eq_zero_of_mask h (by decide) (by cases f <;> decide)
  conv_rhs => rw [word_eq_fields w, hrsv]
  simp

end

/-! ### The word of a row's command -/

/-- The word of a format, from all four operand fields: those the format has not are dropped. -/
def Format.word : Format → BitVec 8 → RegIdx → RegIdx → RegIdx → Imm8 → Word32
  | .N, op, _, _, _, _ => wordN op
  | .D, op, rd, _, _, _ => wordD op rd
  | .S, op, _, rs1, _, _ => wordS op rs1
  | .DS, op, rd, rs1, _, _ => wordDS op rd rs1
  | .DSS, op, rd, rs1, rs2, _ => wordDSS op rd rs1 rs2
  | .DSI, op, rd, rs1, _, imm => wordDSI op rd rs1 imm
  | .DI, op, rd, _, _, imm => wordDI op rd imm
  | .SS, op, _, rs1, rs2, _ => wordSS op rs1 rs2

/-- A word that meets the mask of a format is the format's word of its own fields: the dropped ones were zero. -/
theorem Format.word_fields_of_mask {f : Format} {w : Word32} {op : BitVec 8} (h : w &&& f.mask = matchWord op) :
    f.word (opField w) (rdField w) (rs1Field w) (rs2Field w) (immField w) = w := by
  conv_rhs => rw [← packWord_fields_of_mask h]
  cases f with
  | N =>
    rw [rdField_eq_zero_of_mask h rfl, rs1Field_eq_zero_of_mask h rfl, rs2Field_eq_zero_of_mask h rfl,
      immField_eq_zero_of_mask h rfl]; rfl
  | D => rw [rs1Field_eq_zero_of_mask h rfl, rs2Field_eq_zero_of_mask h rfl, immField_eq_zero_of_mask h rfl]; rfl
  | S => rw [rdField_eq_zero_of_mask h rfl, rs2Field_eq_zero_of_mask h rfl, immField_eq_zero_of_mask h rfl]; rfl
  | DS => rw [rs2Field_eq_zero_of_mask h rfl, immField_eq_zero_of_mask h rfl]; rfl
  | DSS => rw [immField_eq_zero_of_mask h rfl]; rfl
  | DSI => rw [rs2Field_eq_zero_of_mask h rfl]; rfl
  | DI => rw [rs1Field_eq_zero_of_mask h rfl, rs2Field_eq_zero_of_mask h rfl]; rfl
  | SS => rw [rdField_eq_zero_of_mask h rfl, immField_eq_zero_of_mask h rfl]; rfl

/- The laws of the table's rows are shown row by row: `simp` takes the table apart and evaluates each `build`. -/

/-- The encoder agrees with the opcode table, row by row: it packs the row's opcode in the row's format (R75). -/
theorem encode_build (rd rs1 rs2 : RegIdx) (imm : Imm8) :
    ∀ row ∈ opcodeTable, encode (row.build rd rs1 rs2 imm) = row.format.word row.op rd rs1 rs2 imm := by
  simp [opcodeTable, opRows_system, opRows_gf8, opRows_gfv, opRows_gfq, opRows_key, opRows_enc, opRows_dec, opRows_siv,
    encode, Format.word]

/-! ### What the decoder answers -/

/-- Everything the decoder can answer (R77 steps 1 and 2). -/
theorem decode_cases (w : Word32) :
    (rowOf (opField w) = none ∧ decode w = .error .illegalOpcode) ∨
    ∃ row, rowOf (opField w) = some row ∧
      ((w &&& row.format.mask ≠ matchWord row.op ∧ decode w = .error .reservedField) ∨
       (w &&& row.format.mask = matchWord row.op ∧
        decode w = .ok (row.build (rdField w) (rs1Field w) (rs2Field w) (immField w)))) := by
  cases hrow : rowOf (opField w) with
  | none => exact .inl ⟨rfl, decode_error_of_no_row hrow⟩
  | some row =>
    refine .inr ⟨row, rfl, ?_⟩
    by_cases hmask : w &&& row.format.mask = matchWord row.op
    · exact .inr ⟨hmask, (decode_of_row hrow).trans (if_pos hmask)⟩
    · exact .inl ⟨hmask, (decode_of_row hrow).trans (if_neg hmask)⟩

/-- A word that decodes meets the mask of its opcode's row, and the row builds the command. -/
theorem row_of_decode_ok {w : Word32} {i : Instr} (h : decode w = .ok i) :
    ∃ row, rowOf (opField w) = some row ∧ w &&& row.format.mask = matchWord row.op ∧
      row.build (rdField w) (rs1Field w) (rs2Field w) (immField w) = i := by
  rcases decode_cases w with ⟨-, hd⟩ | ⟨row, hrow, ⟨-, hd⟩ | ⟨hmask, hd⟩⟩ <;> rw [h] at hd
  · cases hd
  · cases hd
  · exact ⟨row, hrow, hmask, (Except.ok.inj hd).symm⟩

theorem encode_of_decode {w : Word32} {i : Instr} (h : decode w = .ok i) : encode i = w := by
  obtain ⟨row, hrow, hmask, rfl⟩ := row_of_decode_ok h
  obtain ⟨hmem, hop⟩ := rowOf_some hrow
  rw [encode_build _ _ _ _ row hmem, hop, Format.word_fields_of_mask hmask]

theorem decode_eq_illegalOpcode_iff (w : Word32) : decode w = .error .illegalOpcode ↔ rowOf (opField w) = none := by
  rcases decode_cases w with ⟨hrow, hd⟩ | ⟨row, hrow, ⟨-, hd⟩ | ⟨-, hd⟩⟩ <;> simp [hrow, hd]

/-! ### The fields as numbers (R71) -/

theorem toNat_opField (w : Word32) : (opField w).toNat = w.toNat / 2 ^ 24 := by
  have hw := w.isLt
  rw [opField, BitVec.extractLsb'_toNat, Nat.shiftRight_eq_div_pow]
  omega

theorem toNat_immField (w : Word32) : (immField w).toNat = w.toNat % 2 ^ 8 := by
  rw [immField, BitVec.extractLsb'_toNat, Nat.shiftRight_zero]

/-- The opcodes without a row, as R78 lists them. -/
theorem rowOf_eq_none_iff (op : BitVec 8) :
    rowOf op = none ↔
      let n := op.toNat
      (0x04 ≤ n ∧ n ≤ 0x0F) ∨ (0x17 ≤ n ∧ n ≤ 0x1F) ∨ (0x26 ≤ n ∧ n ≤ 0x2F) ∨ (0x34 ≤ n ∧ n ≤ 0x3F) ∨
        (0x42 ≤ n ∧ n ≤ 0x4F) ∨ (0x57 ≤ n ∧ n ≤ 0x5F) ∨ (0x66 ≤ n ∧ n ≤ 0x6F) ∨ (0x75 ≤ n ∧ n ≤ 0xFF) := by
  revert op; decide +kernel

end Sys2Proof
end

section
/-! PROOFS. The statements about encoding and decoding. -/

open Sys2Proof Sys2Proof.Machine

/-- Settles O2: the word of each format meets its mask, and its fields are the operands. -/
theorem decodeOfEncode : Obligations.DecodeOfEncode := decode_encode

/-- Settles O3: the mask leaves no bit outside the fields of the command's format. -/
theorem encodeOfDecode : Obligations.EncodeOfDecode := fun _ _ => encode_of_decode

/-- Settles O4: the decoder finds no row exactly for the opcodes of R78. -/
theorem illegalOpcodes : Obligations.IllegalOpcodes := by
  intro w
  rw [decode_eq_illegalOpcode_iff, rowOf_eq_none_iff, toNat_opField]

/-- Settles O1: each word is packed from its fields, and decoding undoes encoding. -/
theorem workedEncodings : Obligations.WorkedEncodings := by
  have worked {i : Instr} {w : Word32} (h : encode i = w) : encode i = w ∧ decode w = .ok i :=
    ⟨h, h ▸ decode_encode i⟩
  exact ⟨worked (by decide), worked (by decide), worked (by decide), worked (by decide), worked (by decide),
    worked (by decide)⟩
end

section
/-! PROOFS. The two checks a command's own rule makes (R77 steps 3 and 4), and the order of all four. -/

namespace Sys2Proof

/-- The fault a command raises before it writes anything: `IMM_RANGE` first, then `KEY_NOT_VALID`. -/
def Instr.guardFault (i : Instr) (kv : Bool) : Option FaultCause :=
  if i.wellFormed = false then some .immRange
  else if i.needsKey = true ∧ kv = false then some .keyNotValid
  else none

theorem Instr.guardFault_of_not_wellFormed {i : Instr} (h : i.wellFormed = false) (kv : Bool) :
    i.guardFault kv = some .immRange := if_pos h

theorem Instr.guardFault_of_no_key {i : Instr} (hw : i.wellFormed = true) (hk : i.needsKey = true) :
    i.guardFault false = some .keyNotValid := by
  simp [guardFault, hw, hk]

theorem Instr.guardFault_eq_none {i : Instr} {kv : Bool} (hw : i.wellFormed = true)
    (hk : i.needsKey = true → kv = true) : i.guardFault kv = none := by
  simpa [guardFault, hw] using hk

end Sys2Proof

namespace Sys2Proof.Machine

/-! ### The guards of a command -/

/-- A command raises the fault of its guards, or completes and leaves `FAULT` and `CAUSE` alone. -/
theorem exec_guardFault_cases (i : Instr) (s : State) :
    (i.guardFault s.kv = none ∧ ∃ t, exec i s = .next t ∧ t.fault = s.fault ∧ t.cause = s.cause) ∨
    ∃ c, i.guardFault s.kv = some c ∧ exec i s = .next (s.recordFault c) := by
  rcases exec_cases i s with ⟨rd, x, -, hw, hk, he⟩ | ⟨rfl, he⟩ | ⟨rs1, rfl, he⟩ | ⟨rs1, rs2, rfl, he⟩ | ⟨hw, he⟩ |
    ⟨hw, hk, hkv, he⟩
  · exact .inl ⟨Instr.guardFault_eq_none hw hk, _, he, rfl, rfl⟩
  · exact .inl ⟨rfl, _, he, rfl, rfl⟩
  · exact .inl ⟨rfl, _, he, rfl, rfl⟩
  · exact .inl ⟨rfl, _, he, loadSchedule_fault s _, loadSchedule_cause s _⟩
  · exact .inr ⟨_, Instr.guardFault_of_not_wellFormed hw _, he⟩
  · exact .inr ⟨_, hkv ▸ Instr.guardFault_of_no_key hw hk, he⟩

theorem exec_of_guardFault_eq_some {i : Instr} {s : State} {c : FaultCause} (h : i.guardFault s.kv = some c) :
    exec i s = .next (s.recordFault c) := by
  rcases exec_guardFault_cases i s with ⟨hnone, -⟩ | ⟨c', hc', he⟩
  · exact absurd (hnone.symm.trans h) nofun
  · exact Option.some.inj (hc'.symm.trans h) ▸ he

theorem exec_of_guardFault_eq_none {i : Instr} {s : State} (h : i.guardFault s.kv = none) :
    ∃ t, exec i s = .next t ∧ t.fault = s.fault ∧ t.cause = s.cause := by
  rcases exec_guardFault_cases i s with ⟨-, hnext⟩ | ⟨c, hc, -⟩
  · exact hnext
  · exact absurd (h.symm.trans hc) nofun

/-- `recordFault` writes `FAULT` and `CAUSE` and nothing else (60_exceptions.md R402). -/
theorem raises_of_exec_eq {i : Instr} {s : State} {c : FaultCause} (h : exec i s = .next (s.recordFault c)) :
    Raises i s (causeCode c) :=
  ⟨_, h, rfl, rfl, fun _ => rfl, rfl, rfl, rfl, rfl, rfl⟩

/-! ### The statements' tables and the model's -/

/-- The opcodes and masks the statements list are the table's (R72, R75). -/
theorem find_specRows (op : BitVec 8) :
    specRows.find? (fun row => row.1 == op.toNat) = (rowOf op).map fun row => (op.toNat, row.format.mask.toNat) := by
  revert op; decide +kernel

/-- The legal immediates of a row's command are those of R73. -/
theorem wellFormed_build (rd rs1 rs2 : RegIdx) (imm : Imm8) :
    ∀ row ∈ opcodeTable, (row.build rd rs1 rs2 imm).wellFormed =
      decide ((specImmRange row.op.toNat).1 ≤ imm.toNat ∧ imm.toNat ≤ (specImmRange row.op.toNat).2) := by
  have himm : imm.toNat ≤ 255 := by omega
  simp [opcodeTable, opRows_system, opRows_gf8, opRows_gfv, opRows_gfq, opRows_key, opRows_enc, opRows_dec, opRows_siv,
    Instr.wellFormed, specImmRange, himm]

/-- The commands that read `RK` are those of the eight opcodes of 60_exceptions.md R406. -/
theorem needsKey_build (rd rs1 rs2 : RegIdx) (imm : Imm8) :
    ∀ row ∈ opcodeTable, (row.build rd rs1 rs2 imm).needsKey = decide (row.op.toNat ∈ specKeyReaders) := by
  simp [opcodeTable, opRows_system, opRows_gf8, opRows_gfv, opRows_gfq, opRows_key, opRows_enc, opRows_dec, opRows_siv,
    Instr.needsKey, specKeyReaders]

theorem matchWord_eq_ofNat (op : BitVec 8) : matchWord op = BitVec.ofNat 32 (op.toNat * 2 ^ 24) := by
  revert op; decide +kernel

/-! ### The first check a word fails -/

theorem specFault_of_no_row {w : Word32} (h : rowOf (opField w) = none) (kv : Bool) :
    specFault w kv = some .illegalOpcode := by
  simp only [specFault, ← toNat_opField, find_specRows, h, Option.map_none]

/-- The checks after the first, on the fields of a word whose opcode has a row. -/
theorem specFault_of_row {w : Word32} {row : OpRow} (h : rowOf (opField w) = some row) (kv : Bool) :
    specFault w kv = if w &&& row.format.mask = matchWord row.op then
      (row.build (rdField w) (rs1Field w) (rs2Field w) (immField w)).guardFault kv else some .reservedField := by
  obtain ⟨hmem, hop⟩ := rowOf_some h
  simp only [specFault, ← toNat_opField, ← toNat_immField, find_specRows, h, Option.map_some, BitVec.ofNat_toNat,
    BitVec.setWidth_eq, ← matchWord_eq_ofNat, Instr.guardFault, wellFormed_build _ _ _ _ row hmem,
    needsKey_build _ _ _ _ row hmem, hop, decide_eq_true_eq, decide_eq_false_iff_not, not_and_or, not_le, ne_eq, ite_not]

/-- The decoder makes the first two checks: a word that fails one decodes to that fault. -/
theorem specFault_of_decode_error {w : Word32} {c : FaultCause} (h : decode w = .error c) (kv : Bool) :
    specFault w kv = some c := by
  rcases decode_cases w with ⟨hrow, hd⟩ | ⟨row, hrow, ⟨hmask, hd⟩ | ⟨-, hd⟩⟩ <;> rw [h] at hd
  · rw [specFault_of_no_row hrow, Except.error.inj hd]
  · rw [specFault_of_row hrow, if_neg hmask, Except.error.inj hd]
  · cases hd

/-- The command makes the other two. -/
theorem specFault_of_decode_ok {w : Word32} {i : Instr} (h : decode w = .ok i) (kv : Bool) :
    specFault w kv = i.guardFault kv := by
  obtain ⟨row, hrow, hmask, rfl⟩ := row_of_decode_ok h
  rw [specFault_of_row hrow, if_pos hmask]

end Sys2Proof.Machine
end

section
/-! PROOFS. The statements about the checks of R77. -/

open Sys2Proof Sys2Proof.Machine

/-- Settles O6: the port raises the decoder's checks, and the command's guards are the two that follow. -/
theorem decodeOrder : Obligations.DecodeOrder := by
  intro s w d rest hf hin
  have hf' : ((s.takeMove rest).setDin d).fault = false := hf
  cases hd : decode w with
  | error c =>
    have hspec := specFault_of_decode_error hd s.kv
    have hstep := (step_command hin).trans (issueWord_error hf' hd)
    refine ⟨fun c' hc' => ?_, fun hnone => absurd (hspec.symm.trans hnone) nofun⟩
    obtain rfl : c = c' := Option.some.inj (hspec.symm.trans hc')
    exact ⟨_, hstep, rfl, rfl, fun _ => rfl, rfl, rfl, rfl⟩
  | ok i =>
    have hspec := specFault_of_decode_ok hd s.kv
    have hstep := (step_command hin).trans (issueWord_ok hf' hd)
    refine ⟨fun c hc => ?_, fun hnone => ?_⟩
    · have he := exec_of_guardFault_eq_some (s := (s.takeMove rest).setDin d) (hspec.symm.trans hc)
      exact ⟨_, hstep.trans he, rfl, rfl, fun _ => rfl, rfl, rfl, rfl⟩
    · obtain ⟨t, he, htf, htc⟩ :=
        exec_of_guardFault_eq_none (s := (s.takeMove rest).setDin d) (hspec.symm.trans hnone)
      exact ⟨i, t, rfl, he, hstep.trans he, htf.trans hf', htc⟩

/-- Settles O25: the three clauses are the three answers of the command's guards. -/
theorem legalCommandsComplete : Obligations.LegalCommandsComplete := by
  intro i s hf
  refine ⟨fun hw hk => ?_, fun hw => ?_, fun hw hk hkv => ?_⟩
  · obtain ⟨t, he, htf, htc⟩ := exec_of_guardFault_eq_none (Instr.guardFault_eq_none hw hk)
    exact ⟨t, he, htf.trans hf, htc⟩
  · exact raises_of_exec_eq (exec_of_guardFault_eq_some (Instr.guardFault_of_not_wellFormed hw _))
  · exact raises_of_exec_eq (exec_of_guardFault_eq_some (hkv ▸ Instr.guardFault_of_no_key hw hk))
end

section
/-! PROOFS. Assembler text (R80): the reader cuts a line into the words the writer joined, and reads each back. -/

namespace Sys2Proof.Machine

/-! ### Cutting a line into its words -/

/-- A word of a line: not empty, and free of the characters that separate words or begin a comment. -/
def PlainWord (t : List Char) : Prop := t ≠ [] ∧ ∀ c ∈ t, c ≠ ' ' ∧ c ≠ ',' ∧ c ≠ ';'

/-- `PlainWord` as a check that computes on the list. -/
def isPlainWord (t : List Char) : Bool := !t.isEmpty && t.all fun c => c != ' ' && c != ',' && c != ';'

theorem isPlainWord_iff (t : List Char) : isPlainWord t = true ↔ PlainWord t := by
  simp [isPlainWord, PlainWord, and_assoc]

/-- Characters that do not separate are added to the word being read. -/
theorem words_append {t : List Char} (ht : ∀ c ∈ t, c ≠ ' ' ∧ c ≠ ',' ∧ c ≠ ';') (rest word : List Char) :
    words (t ++ rest) word = words rest (t.reverse ++ word) := by
  induction t generalizing word with
  | nil => rfl
  | cons c cs ih =>
    obtain ⟨⟨hspace, hcomma, -⟩, hcs⟩ := List.forall_mem_cons.mp ht
    simp [words, hspace, hcomma, ih hcs]

/-- A separator ends the word before it. -/
theorem words_plain_sep {t : List Char} (ht : PlainWord t) {c : Char} (hc : c = ' ' ∨ c = ',') (rest : List Char) :
    words (t ++ c :: rest) [] = t :: words rest [] := by
  obtain ⟨hne, hplain⟩ := ht
  rw [words_append hplain]
  rcases hc with rfl | rfl <;> simp [words, hne]

theorem words_plain {t : List Char} (ht : PlainWord t) : words t [] = [t] := by
  obtain ⟨hne, hplain⟩ := ht
  have h := words_append hplain [] []
  simpa [words, hne] using h

theorem words_joinOperands {ops : List (List Char)} (h : ∀ t ∈ ops, PlainWord t) : words (joinOperands ops) [] = ops := by
  induction ops with
  | nil => rfl
  | cons t ts ih =>
    obtain ⟨ht, hts⟩ := List.forall_mem_cons.mp h
    cases ts with
    | nil => exact words_plain ht
    | cons u us =>
      have hspace (rest : List Char) : words (' ' :: rest) [] = words rest [] := rfl
      simp only [joinOperands, List.append_assoc, List.cons_append, List.nil_append]
      rw [words_plain_sep ht (.inr rfl), hspace, ih hts]

/-- Joining brings in no comment. -/
theorem ne_semicolon_of_mem_joinOperands {ops : List (List Char)} (h : ∀ t ∈ ops, PlainWord t) :
    ∀ c ∈ joinOperands ops, c ≠ ';' := by
  induction ops with
  | nil => nofun
  | cons t ts ih =>
    obtain ⟨⟨-, ht⟩, hts⟩ := List.forall_mem_cons.mp h
    cases ts with
    | nil => exact fun c hc => (ht c hc).2.2
    | cons u us =>
      simp only [joinOperands, List.mem_append]
      rintro c ((hc | hc) | hc)
      · exact (ht c hc).2.2
      · rintro rfl; revert hc; decide
      · exact ih hts c hc

theorem beforeComment_eq_self {line : List Char} (h : ∀ c ∈ line, c ≠ ';') : beforeComment line = line :=
  List.takeWhile_eq_self_iff.mpr fun c hc => bne_iff_ne.mpr (h c hc)

/-- The words of a line are its mnemonic and its operands. -/
theorem words_line {m : List Char} {ops : List (List Char)} (hm : PlainWord m) (hops : ∀ t ∈ ops, PlainWord t) :
    words (beforeComment (m ++ [' '] ++ joinOperands ops)) [] = m :: ops := by
  have hline : ∀ c ∈ m ++ [' '] ++ joinOperands ops, c ≠ ';' := by
    simp only [List.mem_append]
    rintro c ((hc | hc) | hc)
    · exact (hm.2 c hc).2.2
    · rintro rfl; revert hc; decide
    · exact ne_semicolon_of_mem_joinOperands hops c hc
  rw [beforeComment_eq_self hline, List.append_assoc, List.singleton_append, words_plain_sep hm (.inl rfl),
    words_joinOperands hops]

theorem words_mnemonic {m : List Char} (hm : PlainWord m) : words (beforeComment m) [] = [m] := by
  rw [beforeComment_eq_self fun c hc => (hm.2 c hc).2.2, words_plain hm]

/-! ### Reading the words back -/

theorem readReg_regText (r : RegIdx) : readReg (regText r) = some r := by revert r; decide +kernel

theorem readImm_immText (n : Imm8) : readImm (immText n) = some n := by revert n; decide +kernel

theorem plainWord_regText (r : RegIdx) : PlainWord (regText r) := by
  rw [← isPlainWord_iff]; revert r; decide +kernel

theorem plainWord_immText (n : Imm8) : PlainWord (immText n) := by
  rw [← isPlainWord_iff]; revert n; decide +kernel

theorem plainWord_of_mem_operandText {f : Format} {w : Word32} : ∀ t ∈ operandText f w, PlainWord t := by
  cases f <;> simp only [operandText, List.forall_mem_cons, List.not_mem_nil, false_imp_iff, implies_true, and_true,
    plainWord_regText, plainWord_immText]

/-- The operands of a word that meets its row's mask read back as its fields: the fields without text are zero. -/
theorem buildFrom_operandText {row : OpRow} {w : Word32} {op : BitVec 8}
    (h : w &&& row.format.mask = matchWord op) :
    buildFrom row (operandText row.format w) =
      some (row.build (rdField w) (rs1Field w) (rs2Field w) (immField w)) := by
  obtain ⟨_, m, f, build⟩ := row
  replace h : w &&& f.mask = matchWord op := h
  cases f with
  | N =>
    rw [rdField_eq_zero_of_mask h rfl, rs1Field_eq_zero_of_mask h rfl, rs2Field_eq_zero_of_mask h rfl,
      immField_eq_zero_of_mask h rfl]; rfl
  | D =>
    rw [rs1Field_eq_zero_of_mask h rfl, rs2Field_eq_zero_of_mask h rfl, immField_eq_zero_of_mask h rfl]
    simp [buildFrom, operandText, readReg_regText]
  | S =>
    rw [rdField_eq_zero_of_mask h rfl, rs2Field_eq_zero_of_mask h rfl, immField_eq_zero_of_mask h rfl]
    simp [buildFrom, operandText, readReg_regText]
  | DS =>
    rw [rs2Field_eq_zero_of_mask h rfl, immField_eq_zero_of_mask h rfl]
    simp [buildFrom, operandText, readReg_regText]
  | DSS =>
    rw [immField_eq_zero_of_mask h rfl]
    simp [buildFrom, operandText, readReg_regText]
  | DSI =>
    rw [rs2Field_eq_zero_of_mask h rfl]
    simp [buildFrom, operandText, readReg_regText, readImm_immText]
  | DI =>
    rw [rs1Field_eq_zero_of_mask h rfl, rs2Field_eq_zero_of_mask h rfl]
    simp [buildFrom, operandText, readReg_regText, readImm_immText]
  | SS =>
    rw [rdField_eq_zero_of_mask h rfl, immField_eq_zero_of_mask h rfl]
    simp [buildFrom, operandText, readReg_regText]

/-! ### Mnemonics (R75, R81) -/

theorem mnemonics_nodup : (opcodeTable.map (·.mnemonic.toList)).Nodup := by decide +kernel

theorem plainWord_mnemonic : ∀ row ∈ opcodeTable, PlainWord row.mnemonic.toList := by
  simp only [← isPlainWord_iff]; decide +kernel

theorem mnemonic_ne_pseudo :
    ∀ row ∈ opcodeTable, row.mnemonic.toList ≠ "GFV.ROTW".toList ∧ row.mnemonic.toList ≠ "AES.ARK0".toList := by
  decide +kernel

/-- A mnemonic finds its own row, since no two rows share one. -/
theorem find_mnemonic {row : OpRow} (h : row ∈ opcodeTable) :
    opcodeTable.find? (fun r => r.mnemonic.toList == row.mnemonic.toList) = some row := by
  cases hfind : opcodeTable.find? (fun r => r.mnemonic.toList == row.mnemonic.toList) with
  | none => exact absurd (List.find?_eq_none.mp hfind row h) (by simp)
  | some row' =>
    have heq : row'.mnemonic.toList = row.mnemonic.toList := beq_iff_eq.mp (List.find?_some hfind :)
    rw [List.inj_on_of_nodup_map mnemonics_nodup (List.mem_of_find?_eq_some hfind) h heq]

/-- A line that begins with a row's mnemonic is read by that row. -/
theorem assemble_of_words {row : OpRow} (h : row ∈ opcodeTable) {line : List Char} {ops : List (List Char)}
    (hwords : words (beforeComment line) [] = row.mnemonic.toList :: ops) : assemble line = buildFrom row ops := by
  obtain ⟨hrotw, hark0⟩ := mnemonic_ne_pseudo row h
  simp only [assemble, hwords, beq_eq_false_iff_ne.mpr hrotw, beq_eq_false_iff_ne.mpr hark0, Bool.false_eq_true,
    if_false, find_mnemonic h, Option.bind_some]

/-- The words of a command's text. -/
theorem words_assembly {i : Instr} {row : OpRow} (hrow : rowOf (opField (encode i)) = some row) :
    words (beforeComment (assembly i)) [] = row.mnemonic.toList :: operandText row.format (encode i) := by
  have hm := plainWord_mnemonic row (rowOf_some hrow).1
  simp only [assembly, hrow]
  split
  · next hops => rw [words_mnemonic hm, hops]
  · exact words_line hm plainWord_of_mem_operandText

theorem assemble_assembly (i : Instr) : assemble (assembly i) = some i := by
  obtain ⟨row, hrow, hmask, hbuild⟩ := row_of_decode_ok (decode_encode i)
  rw [assemble_of_words (rowOf_some hrow).1 (words_assembly hrow), buildFrom_operandText hmask, hbuild]

/-! ### Pseudo-commands (R81) -/

theorem words_two_registers {m : List Char} (hm : PlainWord m) (rd rs1 : RegIdx) :
    words (beforeComment (m ++ " ".toList ++ regText rd ++ ", ".toList ++ regText rs1)) [] =
      [m, regText rd, regText rs1] := by
  have hops : ∀ t ∈ [regText rd, regText rs1], PlainWord t := by simp [plainWord_regText]
  simpa [joinOperands] using words_line hm hops

theorem assemble_gfvRotw (rd rs1 : RegIdx) :
    assemble ("GFV.ROTW".toList ++ " ".toList ++ regText rd ++ ", ".toList ++ regText rs1) =
      some (.gfvRotw rd rs1) := by
  have hm : PlainWord "GFV.ROTW".toList := (isPlainWord_iff _).mp (by decide +kernel)
  simp only [assemble, words_two_registers hm, beq_self_eq_true, if_true, readReg_regText, Option.bind_some,
    Option.map_some]

theorem assemble_aesArk0 (rd rs1 : RegIdx) :
    assemble ("AES.ARK0".toList ++ " ".toList ++ regText rd ++ ", ".toList ++ regText rs1) =
      some (.aesArk0 rd rs1) := by
  have hm : PlainWord "AES.ARK0".toList := (isPlainWord_iff _).mp (by decide +kernel)
  have hne : ("AES.ARK0".toList == "GFV.ROTW".toList) = false := by decide +kernel
  simp only [assemble, words_two_registers hm, hne, Bool.false_eq_true, if_false, beq_self_eq_true, if_true,
    readReg_regText, Option.bind_some, Option.map_some]

end Sys2Proof.Machine
end

section
/-! PROOFS. The statement about assembler text. -/

open Sys2Proof Sys2Proof.Machine

/-- Settles O7: the words of a line read back one by one, and the two aliases build the commands they stand for. -/
theorem assemblyRoundTrip : Obligations.AssemblyRoundTrip := by
  exact ⟨assemble_assembly, fun rd rs1 => ⟨assemble_gfvRotw rd rs1, assemble_aesArk0 rd rs1⟩⟩
end

section
/-! PROOFS. Two shapes that every command's statement shares: the word of R71 with its reserved fields (R72), and the
write of one register. -/

namespace Sys2Proof

theorem opField_eq_of_shiftRight {w w' : Word32} (h : w >>> 24 = w' >>> 24) : opField w = opField w' := by
  apply BitVec.eq_of_toNat_eq
  have hnat := congrArg BitVec.toNat h
  rwa [BitVec.toNat_ushiftRight, BitVec.toNat_ushiftRight, Nat.shiftRight_eq_div_pow, Nat.shiftRight_eq_div_pow,
    ← toNat_opField, ← toNat_opField] at hnat

/-- The opcode of a word, back in its place, is what the decoder compares the masked word with. -/
theorem shiftRight_shiftLeft_eq_matchWord (w : Word32) : (w >>> 24) <<< 24 = matchWord (opField w) := by
  ext i hi
  simp [matchWord, opField]
  grind

end Sys2Proof

namespace Sys2Proof.Machine

theorem r71Word_eq_packWord (op : BitVec 8) (rd rs1 rs2 : RegIdx) (imm : Imm8) :
    r71Word op.toNat rd rs1 rs2 imm = packWord op rd rs1 rs2 imm := by
  have hreg (r : RegIdx) : BitVec.ofNat 32 r.val = (regBits r).setWidth 32 := by revert r; decide
  rw [r71Word, packWord, hreg, hreg, hreg, BitVec.ofNat_toNat]

/-- A command whose encoding is packed under the opcode `op` of format `f` has the word of R71 and the mask of `f`. -/
theorem encodes_r71Word (op : BitVec 8) (f : Format) (hf : (rowOf op).map OpRow.format = some f) {i : Instr}
    {rd rs1 rs2 : RegIdx} {imm : Imm8} (hi : encode i = packWord op rd rs1 rs2 imm) :
    Encodes (r71Word op.toNat rd rs1 rs2 imm) f.mask i := by
  obtain ⟨row, hrow, rfl⟩ := Option.map_eq_some_iff.mp hf
  rw [r71Word_eq_packWord, ← hi]
  refine ⟨rfl, decode_encode i, fun w hop hmask => ?_⟩
  rw [shiftRight_shiftLeft_eq_matchWord, hi, opField_packWord, ← (rowOf_some hrow).2] at hmask
  have hw : rowOf (opField w) = some row := by rw [opField_eq_of_shiftRight hop, hi, opField_packWord, hrow]
  exact (decode_of_row hw).trans (if_neg hmask)

/-- `setReg` writes one register and nothing else. -/
theorem writes_of_exec_eq {i : Instr} {s : State} {rd : RegIdx} {x : Block} (h : exec i s = .next (s.setReg rd x)) :
    Writes i s rd x :=
  ⟨_, h, reg_setReg_same s rd x, fun _ hr => reg_setReg_of_ne s x hr, rfl, rfl, rfl, rfl, rfl, rfl, rfl⟩

end Sys2Proof.Machine
end

section
/-! PROOFS. The functions of 41_gf256.md section 1 as the statements write them: the doubling without its mask, the
power as an iteration, and the loops of R102 and R162 as folds over the bit positions. -/

namespace Sys2Proof.Machine

/-- The bit that R101's mask clears is the one the shift drops. -/
theorem xtimes_eq_shiftLeft (a : Byte) : xtimes a = a <<< 1 ^^^ if a.getLsbD 7 then 0x1b#8 else 0#8 := by
  revert a; decide +kernel

theorem power_eq_iterate (a : Byte) (n : Nat) : power a n = (fun r => multiply r a)^[n] 1#8 := by
  induction n with
  | zero => rfl
  | succ n ih => rw [power, ih, Function.iterate_succ_apply']

theorem qmultiplyLoop_eq_doubleAddLoop (b : Block) (n k : Nat) (res t : Block) :
    qmultiplyLoop b n k res t = doubleAddLoop qxtimes b n k res t := by
  induction n generalizing k res t with
  | zero => rfl
  | succ n ih => exact ih _ _ _

/-- One round of the loops of R102 and R162, on the pair of their variables `res` and `t`. -/
def doubleAddStep {w : Nat} (dbl : BitVec w → BitVec w) (b : BitVec w) (p : BitVec w × BitVec w) (k : Nat) :
    BitVec w × BitVec w :=
  (if b.getLsbD k then p.1 ^^^ p.2 else p.1, dbl p.2)

theorem doubleAddLoop_eq_foldl {w : Nat} (dbl : BitVec w → BitVec w) (b : BitVec w) (n k : Nat) (res t : BitVec w) :
    doubleAddLoop dbl b n k res t = ((List.range' k n).foldl (doubleAddStep dbl b) (res, t)).1 := by
  induction n generalizing k res t with
  | zero => rfl
  | succ n ih => exact ih _ _ _

theorem multiply_eq_foldl (a b : Byte) :
    multiply a b = ((List.range 8).foldl (doubleAddStep xtimes b) (0#8, a)).1 := by
  rw [multiply, multiplyLoop_eq_doubleAddLoop, doubleAddLoop_eq_foldl, List.range_eq_range']
  rfl

theorem qmultiply_eq_foldl (a b : Block) :
    qmultiply a b = ((List.range 128).foldl (doubleAddStep qxtimes b) (0#128, a)).1 := by
  rw [qmultiply, qmultiplyLoop_eq_doubleAddLoop, doubleAddLoop_eq_foldl, List.range_eq_range']
  rfl

end Sys2Proof.Machine
end

section
/-! PROOFS. The statements about the scalar commands and about the loops. -/

open Sys2Proof Sys2Proof.Machine

/-- Settles O28: each command packs its operands in its row's format and writes one byte, zero-extended. -/
theorem gf8Commands : Obligations.Gf8Commands := by
  intro s rd rs1 rs2 n _ a b
  refine ⟨⟨encodes_r71Word 0x10#8 .DSS rfl rfl, writes_of_exec_eq rfl⟩,
    ⟨encodes_r71Word 0x11#8 .DS rfl rfl, ?_⟩,
    ⟨encodes_r71Word 0x12#8 .DSS rfl rfl, writes_of_exec_eq rfl⟩,
    ⟨encodes_r71Word 0x13#8 .DSI rfl rfl, ?_⟩,
    ⟨encodes_r71Word 0x14#8 .DS rfl rfl, ?_⟩,
    ⟨encodes_r71Word 0x15#8 .DS rfl rfl, writes_of_exec_eq rfl⟩,
    ⟨encodes_r71Word 0x16#8 .DS rfl rfl, writes_of_exec_eq rfl⟩⟩
  · rw [← xtimes_eq_shiftLeft]
    exact writes_of_exec_eq rfl
  · rw [← power_eq_iterate]
    exact writes_of_exec_eq rfl
  · rw [← power_eq_iterate]
    exact writes_of_exec_eq rfl

/-- Settles O30: the recursions of the model run through the bit positions in the order of the folds. -/
theorem fieldLoops : Obligations.FieldLoops :=
  ⟨fun _ => rfl, multiply_eq_foldl, fun _ => rfl, qmultiply_eq_foldl⟩
end

section
/-! PROOFS. The laws of the AES field (41_gf256.md R104, R107), read off the quotient ring: a bit vector is the one
representative of its class below the degree of the modulus. -/

namespace Sys2Proof.Machine

open Polynomial

/-! ### Bit vectors are the residues modulo a polynomial of their width -/

theorem coeff_toPoly {n : Nat} (x : BitVec n) (i : Nat) :
    (toPoly x).coeff i = if x.getLsbD i then 1 else 0 := by
  have hterm (j : Nat) : (if x.getLsbD j then (X : (ZMod 2)[X]) ^ j else 0).coeff i =
      if i = j then (if x.getLsbD i then 1 else 0) else 0 := by
    by_cases hij : i = j
    · subst hij; cases x.getLsbD i <;> simp
    · cases x.getLsbD j <;> simp [coeff_X_pow, hij]
  rw [toPoly, finsetSum_coeff, Finset.sum_congr rfl fun j _ => hterm j, Finset.sum_ite_eq]
  by_cases hi : i < n
  · simp [hi]
  · simp [hi, BitVec.getLsbD_of_ge x i (by omega)]

theorem degree_toPoly_lt {n : Nat} (x : BitVec n) : (toPoly x).degree < n := by
  refine (degree_lt_iff_coeff_zero _ _).mpr fun i hi => ?_
  simp [coeff_toPoly, BitVec.getLsbD_of_ge x i hi]

theorem eq_zero_of_toPoly_eq_zero {n : Nat} {x : BitVec n} (h : toPoly x = 0) : x = 0#n := by
  refine BitVec.eq_of_getLsbD_eq fun i _ => ?_
  have hcoeff := congrArg (coeff · i) h
  simpa [coeff_toPoly] using hcoeff

theorem toQuot_injective {n : Nat} (r : BitVec n) :
    Function.Injective (toQuot (X ^ n + toPoly r) : BitVec n → AdjoinRoot (X ^ n + toPoly r)) := by
  intro x y h
  have hdvd : X ^ n + toPoly r ∣ toPoly (x ^^^ y) := by
    rw [toPoly_xor, ← CharTwo.sub_eq_add (toPoly x)]
    exact AdjoinRoot.mk_eq_mk.mp h
  have hlt : (toPoly (x ^^^ y)).degree < (X ^ n + toPoly r).degree := by
    rw [degree_add_eq_left_of_degree_lt (by rw [degree_X_pow]; exact degree_toPoly_lt r), degree_X_pow]
    exact degree_toPoly_lt _
  exact BitVec.xor_eq_zero_iff.mp (eq_zero_of_toPoly_eq_zero (eq_zero_of_dvd_of_degree_lt hdvd hlt))

theorem toQuot_aesPoly_injective : Function.Injective (toQuot aesPoly : Byte → AdjoinRoot aesPoly) := by
  rw [aesPoly_eq]
  exact toQuot_injective 0x1b#8

@[simp] theorem toQuot_one (m : (ZMod 2)[X]) (n : Nat) : toQuot m 1#(n + 1) = 1 := by
  simp [toQuot, toPoly]

theorem toQuot_power (a : Byte) (n : Nat) : toQuot aesPoly (power a n) = toQuot aesPoly a ^ n := by
  induction n with
  | zero => simp [power]
  | succ n ih => rw [power, toQuot_multiply, ih, pow_succ]

/-! ### The ring laws (R107) -/

theorem multiply_comm (a b : Byte) : multiply a b = multiply b a := by
  apply toQuot_aesPoly_injective
  rw [toQuot_multiply, toQuot_multiply, mul_comm]

theorem multiply_gadd (a b c : Byte) : multiply a (gadd b c) = gadd (multiply a b) (multiply a c) := by
  apply toQuot_aesPoly_injective
  rw [gadd, gadd, toQuot_multiply, toQuot_xor, toQuot_xor, toQuot_multiply, toQuot_multiply, mul_add]

theorem multiply_assoc (a b c : Byte) : multiply (multiply a b) c = multiply a (multiply b c) := by
  apply toQuot_aesPoly_injective
  simp only [toQuot_multiply, mul_assoc]

theorem multiply_one (a : Byte) : multiply a 1 = a := by
  apply toQuot_aesPoly_injective
  simp [toQuot_multiply]

/-! ### The inverse (R104) -/

/-- Squaring a byte. -/
def square (a : Byte) : Byte := multiply a a

theorem toQuot_iterate_square (a : Byte) (n : Nat) : toQuot aesPoly (square^[n] a) = toQuot aesPoly a ^ 2 ^ n := by
  induction n with
  | zero => simp
  | succ n ih => rw [Function.iterate_succ_apply', square, toQuot_multiply, ih, pow_succ 2 n, pow_mul, pow_two]

theorem root_aesPoly_pow_two_pow_eight : AdjoinRoot.root aesPoly ^ 2 ^ 8 = AdjoinRoot.root aesPoly := by
  have hroot : toQuot aesPoly 2#8 = AdjoinRoot.root aesPoly := by
    rw [show 2#8 = xtimes 1#8 by decide, toQuot_xtimes, toQuot_one, mul_one]
  rw [← hroot, ← toQuot_iterate_square, show square^[8] 2#8 = 2#8 by decide +kernel]

theorem charP_aesField : CharP (AdjoinRoot aesPoly) 2 := by
  have : Nontrivial (AdjoinRoot aesPoly) :=
    ⟨_, _, toQuot_aesPoly_injective.ne (show (0 : Byte) ≠ 1 by decide)⟩
  exact charP_of_injective_algebraMap' (ZMod 2) 2

/-- Squaring is additive, so its eighth power, which fixes the root, fixes every byte. -/
theorem toQuot_pow_two_pow_eight (a : Byte) : toQuot aesPoly a ^ 2 ^ 8 = toQuot aesPoly a := by
  have := charP_aesField
  rw [← sum_bits_eq_toQuot, sum_pow_char_pow]
  refine Finset.sum_congr rfl fun j _ => ?_
  rw [ite_pow, pow_right_comm, root_aesPoly_pow_two_pow_eight, zero_pow (by decide)]

/-- The 254th power is the inverse of a byte that has one: `a^254 = a^254 (ab)^2 = a^256 b^2 = a b^2 = b`. -/
theorem inverse_eq_of_multiply_eq_one {a b : Byte} (h : multiply a b = 1) : inverse a = b := by
  apply toQuot_aesPoly_injective
  have hab : toQuot aesPoly a * toQuot aesPoly b = 1 := by simp [← toQuot_multiply, h]
  rw [inverse, toQuot_power]
  calc toQuot aesPoly a ^ 254
      = toQuot aesPoly a ^ 254 * (toQuot aesPoly a * toQuot aesPoly b) ^ 2 := by rw [hab]; ring
    _ = toQuot aesPoly a ^ 2 ^ 8 * toQuot aesPoly b ^ 2 := by ring
    _ = toQuot aesPoly a * toQuot aesPoly b * toQuot aesPoly b := by rw [toQuot_pow_two_pow_eight]; ring
    _ = toQuot aesPoly b := by rw [hab, one_mul]

/-- The affine map of R105 read backwards. -/
def affineInv (y : Byte) : Byte := y.rotateLeft 1 ^^^ y.rotateLeft 3 ^^^ y.rotateLeft 6 ^^^ 0x05#8

/-- The forward box holds the inverse of every byte but 0, behind the affine map. -/
theorem multiply_affineInv_sbox {a : Byte} (h : a ≠ 0) : multiply a (affineInv (sbox a)) = 1 := by
  revert a; decide +kernel

theorem inverse_zero : inverse 0 = 0 := by
  apply toQuot_aesPoly_injective
  rw [inverse, toQuot_power]
  simp

theorem inverse_eq_affineInv_sbox (a : Byte) : inverse a = affineInv (sbox a) := by
  by_cases h : a = 0
  · rw [h, inverse_zero]; rfl
  · exact inverse_eq_of_multiply_eq_one (multiply_affineInv_sbox h)

theorem multiply_inverse {a : Byte} (h : a ≠ 0) : multiply a (inverse a) = 1 := by
  rw [inverse_eq_affineInv_sbox, multiply_affineInv_sbox h]

/-! ### The S-box (R105, R106) -/

theorem getLsbD_eq_affine_affineInv (y : Byte) (i : Fin 8) :
    y.getLsbD i = ((affineInv y).getLsbD i ^^ (affineInv y).getLsbD ((i + 4) % 8) ^^
      (affineInv y).getLsbD ((i + 5) % 8) ^^ (affineInv y).getLsbD ((i + 6) % 8) ^^
      (affineInv y).getLsbD ((i + 7) % 8) ^^ (0x63#8).getLsbD i) := by
  revert y i; decide +kernel

theorem isbox_sbox (a : Byte) : isbox (sbox a) = a := by revert a; decide +kernel

theorem sbox_isbox (a : Byte) : sbox (isbox a) = a := by revert a; decide +kernel

theorem sbox_ne_self (a : Byte) : sbox a ≠ a := by revert a; decide +kernel

end Sys2Proof.Machine
end

section
/-! PROOFS. The statements about the field and the boxes. -/

open Sys2Proof Sys2Proof.Machine

/-- Settles O32: the ring laws hold in the quotient ring, and the 254th power is the inverse. -/
theorem gf8FieldLaws : Obligations.Gf8FieldLaws :=
  ⟨fun _ => multiply_inverse, multiply_comm, multiply_gadd, multiply_assoc,
    fun a => ⟨multiply_one a, (multiply_comm 1 a).trans (multiply_one a)⟩⟩

/-- Settles O33: the inverse is what the box holds behind the affine map; the tables themselves are evaluated. -/
theorem sboxLaws : Obligations.SboxLaws := by
  refine ⟨fun a i => ?_, fun a => ⟨isbox_sbox a, sbox_isbox a⟩, sbox_ne_self⟩
  rw [inverse_eq_affineInv_sbox]
  exact getLsbD_eq_affine_affineInv (sbox a) i
end

section
/-! PROOFS. The functions of 42_gf256_vec.md section 1 as the statements write them: the rotation as two shifts of the
word, and the dot product as a fold over the elements. -/

namespace Sys2Proof.Machine

/-- R121 on the 32-bit value: moving the elements down `k` places is a rotate towards bit 0 by `8 * (k % 4)`. -/
theorem vrotl_eq_shift (w : Word32) (k : Nat) :
    vrotl w k = w >>> (8 * (k % 4)) ||| w <<< (32 - 8 * (k % 4)) := by
  have hrot (r : Nat) (hr : r < 4) : vrotl w r = w >>> (8 * r) ||| w <<< (32 - 8 * r) := by
    match r, hr with
    | 0, _ | 1, _ | 2, _ | 3, _ => ext i hi; simp [vrotl, vec, elem]; grind
  have hmod : vrotl w k = vrotl w (k % 4) := by simp only [vrotl, Nat.add_mod_mod]
  exact hmod.trans (hrot _ (Nat.mod_lt k (by decide)))

theorem foldl_xor_multiply_eq_vdot (u w : Word32) :
    (List.range 4).foldl (fun acc j => acc ^^^ multiply (elem u j) (elem w j)) 0 = vdot u w := by
  simp [List.range_succ, vdot]

/-- With a legal index `GFV.RCON` writes its result (R134). -/
theorem exec_gfvRcon_of_legal {n : Imm8} (h : rconIndexLegal n = true) (rd rs1 : RegIdx) (s : State) :
    exec (.gfvRcon rd rs1 n) s = .next (s.setReg rd ((rconword (w0 (s.reg rs1)) n.toNat).setWidth 128)) :=
  if_pos h

end Sys2Proof.Machine
end

section
/-! PROOFS. The statement about the vector commands. -/

open Sys2Proof Sys2Proof.Machine

/-- Settles O29: each command packs its operands in its row's format and writes one word or byte, zero-extended;
`GFV.RCON` does so when its index passes the check that otherwise raises `IMM_RANGE`. -/
theorem gfvCommands : Obligations.GfvCommands := by
  intro s rd rs1 rs2 n _ u w k dot
  have hdot : dot = vdot := funext₂ foldl_xor_multiply_eq_vdot
  rw [hdot]
  refine ⟨⟨encodes_r71Word 0x20#8 .DSS rfl rfl, writes_of_exec_eq rfl⟩,
    ⟨encodes_r71Word 0x21#8 .DSI rfl rfl, ?_⟩,
    ⟨encodes_r71Word 0x22#8 .DSS rfl rfl, writes_of_exec_eq rfl⟩,
    ⟨encodes_r71Word 0x23#8 .DS rfl rfl, writes_of_exec_eq rfl⟩,
    encodes_r71Word 0x24#8 .DSI rfl rfl, fun h1 h10 => ?_, fun hj => ?_,
    ⟨encodes_r71Word 0x25#8 .DSS rfl rfl, writes_of_exec_eq rfl⟩⟩
  · rw [← vrotl_eq_shift]
    exact writes_of_exec_eq rfl
  · rw [← rcon_eq_power h1 h10]
    exact writes_of_exec_eq (exec_gfvRcon_of_legal (decide_eq_true ⟨h1, h10⟩) rd rs1 s)
  · have hillegal : (Instr.gfvRcon rd rs1 n).wellFormed = false := decide_eq_false (by omega)
    exact raises_of_exec_eq (exec_of_guardFault_eq_some (Instr.guardFault_of_not_wellFormed hillegal _))
end

section
/-! PROOFS. The POLYVAL field (43_gf128.md R161 to R163): its doubling is multiplication by `X`, so its loop is the
product in the quotient ring and its laws are that ring's. -/

namespace Sys2Proof.Machine

open Polynomial

/-! ### The doubling (R161) -/

/-- The bit that R161's mask clears is the one the shift drops. -/
theorem qxtimes_eq_shiftLeft (a : Block) : qxtimes a = a <<< 1 ^^^ if a.getLsbD 127 then r128 else 0#128 := by
  have hmask : 0x7FFFFFFFFFFFFFFFFFFFFFFFFFFFFFFF#128 <<< 1 = BitVec.allOnes 128 <<< 1 := by decide
  rw [qxtimes, BitVec.shiftLeft_and_distrib, hmask, ← BitVec.shiftLeft_and_distrib, BitVec.and_allOnes]

/-- The modulus of degree `n` whose lower coefficients are the bits of `r`. It is stated for every `n` and used by its
lemmas: unification at the literal 128 would unfold the power factor by factor. -/
noncomputable def reductionPoly {n : Nat} (r : BitVec n) : (ZMod 2)[X] := X ^ n + toPoly r

/-- The POLYVAL polynomial, with `R128` below its leading term (R161). -/
noncomputable def polyvalPoly : (ZMod 2)[X] := reductionPoly r128

theorem toPoly_twoPow {n k : Nat} (h : k < n) : toPoly (BitVec.twoPow n k) = X ^ k := by
  ext i
  simp only [coeff_toPoly, coeff_X_pow, BitVec.getLsbD_twoPow, h, decide_true, Bool.true_and, decide_eq_true_eq,
    @eq_comm _ k i]

/-- `R128` has bits 127, 126, 121 and 0. -/
theorem toPoly_r128 : toPoly r128 = X ^ 127 + X ^ 126 + X ^ 121 + 1 := by
  have hbits : r128 = BitVec.twoPow 128 127 ^^^ BitVec.twoPow 128 126 ^^^ BitVec.twoPow 128 121 ^^^
      BitVec.twoPow 128 0 := by decide
  rw [hbits, toPoly_xor, toPoly_xor, toPoly_xor, toPoly_twoPow (by decide), toPoly_twoPow (by decide),
    toPoly_twoPow (by decide), toPoly_twoPow (by decide), pow_zero]

/-- `x^128 + x^127 + x^126 + x^121 + 1` (R161). -/
theorem polyvalPoly_eq : polyvalPoly = X ^ 128 + X ^ 127 + X ^ 126 + X ^ 121 + 1 := by
  rw [polyvalPoly, reductionPoly, toPoly_r128, ← add_assoc, ← add_assoc, ← add_assoc]

theorem toQuot_reductionPoly_shift_reduce {n : Nat} (x r : BitVec (n + 1)) :
    toQuot (reductionPoly r) (x <<< 1 ^^^ if x.getLsbD n then r else 0) =
      AdjoinRoot.root (reductionPoly r) * toQuot (reductionPoly r) x :=
  toQuot_shift_reduce x r

theorem toQuot_reductionPoly_injective {n : Nat} (r : BitVec n) :
    Function.Injective (toQuot (reductionPoly r) : BitVec n → AdjoinRoot (reductionPoly r)) :=
  toQuot_injective r

theorem toQuot_qxtimes (a : Block) :
    toQuot polyvalPoly (qxtimes a) = AdjoinRoot.root polyvalPoly * toQuot polyvalPoly a := by
  rw [qxtimes_eq_shiftLeft]
  exact toQuot_reductionPoly_shift_reduce (n := 127) a r128

/-! ### The product (R162) -/

theorem toQuot_qmultiply (a b : Block) :
    toQuot polyvalPoly (qmultiply a b) = toQuot polyvalPoly a * toQuot polyvalPoly b := by
  rw [qmultiply, qmultiplyLoop_eq_doubleAddLoop]
  exact toQuot_doubleAddLoop_eq_mul toQuot_qxtimes a b

theorem dvd_sub_mul_of_toQuot_eq_mul {m : (ZMod 2)[X]} {n : Nat} {x y z : BitVec n}
    (h : toQuot m z = toQuot m x * toQuot m y) : m ∣ toPoly z - toPoly x * toPoly y := by
  rw [toQuot, toQuot, toQuot, ← map_mul] at h
  exact AdjoinRoot.mk_eq_mk.mp h

theorem toQuot_polyvalPoly_injective : Function.Injective (toQuot polyvalPoly : Block → AdjoinRoot polyvalPoly) :=
  toQuot_reductionPoly_injective r128

theorem qmultiply_comm (a b : Block) : qmultiply a b = qmultiply b a := by
  apply toQuot_polyvalPoly_injective
  rw [toQuot_qmultiply, toQuot_qmultiply, mul_comm]

theorem qmultiply_assoc (a b c : Block) : qmultiply (qmultiply a b) c = qmultiply a (qmultiply b c) := by
  apply toQuot_polyvalPoly_injective
  simp only [toQuot_qmultiply, mul_assoc]

theorem qmultiply_qadd (a b c : Block) : qmultiply a (qadd b c) = qadd (qmultiply a b) (qmultiply a c) := by
  apply toQuot_polyvalPoly_injective
  rw [qadd, qadd, toQuot_qmultiply, toQuot_xor, toQuot_xor, toQuot_qmultiply, toQuot_qmultiply, mul_add]

theorem qmultiply_zero (a : Block) : qmultiply a 0 = 0 := by
  apply toQuot_polyvalPoly_injective
  simp [toQuot_qmultiply]

theorem qmultiply_one (a : Block) : qmultiply a 1 = a := by
  apply toQuot_polyvalPoly_injective
  simp [toQuot_qmultiply]

/-- `2` is the doubling of `1`. -/
theorem qmultiply_two (a : Block) : qmultiply a 2 = qxtimes a := by
  apply toQuot_polyvalPoly_injective
  rw [toQuot_qmultiply, show (2 : Block) = qxtimes 1#128 by decide, toQuot_qxtimes, toQuot_qxtimes, toQuot_one,
    mul_one, mul_comm]

/-! ### The product with `C128` (R163) -/

theorem qmultiply_c128_r128 : qmultiply c128 r128 = 1 := by decide +kernel

/-- The two constants cancel. -/
theorem qdot_r128 (a : Block) : qdot a r128 = a := by
  rw [qdot, qmultiply_assoc, qmultiply_comm r128, qmultiply_c128_r128, qmultiply_one]

theorem qdot_comm (a b : Block) : qdot a b = qdot b a := by rw [qdot, qdot, qmultiply_comm a b]

end Sys2Proof.Machine
end

section
/-! PROOFS. The statements about GF(2^128). -/

open Sys2Proof Sys2Proof.Machine

/-- Settles O34: each command packs its operands in its row's format and writes all 128 bits of its result. -/
theorem gfqCommands : Obligations.GfqCommands := by
  intro s rd rs1 rs2 _ a b
  refine ⟨⟨encodes_r71Word 0x30#8 .DSS rfl rfl, writes_of_exec_eq rfl⟩,
    ⟨encodes_r71Word 0x31#8 .DS rfl rfl, ?_⟩,
    ⟨encodes_r71Word 0x32#8 .DSS rfl rfl, writes_of_exec_eq rfl⟩,
    ⟨encodes_r71Word 0x33#8 .DSS rfl rfl, writes_of_exec_eq rfl⟩⟩
  change Writes _ s rd (a <<< 1 ^^^ if a.getLsbD 127 then r128 else 0#128)
  rw [← qxtimes_eq_shiftLeft]
  exact writes_of_exec_eq rfl

/-- Settles O35: `qmultiply` is multiplication modulo the POLYVAL polynomial, by the invariant of its loop. -/
theorem qmultiplyIsFieldProduct : Obligations.QmultiplyIsFieldProduct := by
  intro a b
  refine ⟨_, _, _, represents_toPoly a, represents_toPoly b, represents_toPoly (qmultiply a b), ?_⟩
  rw [← polyvalPoly_eq]
  exact dvd_sub_mul_of_toQuot_eq_mul (toQuot_qmultiply a b)

/-- Settles O36: the ring laws hold in the quotient ring, and the product of the two constants is evaluated. -/
theorem qmultiplyLaws : Obligations.QmultiplyLaws :=
  ⟨qmultiply_comm, qmultiply_assoc, qmultiply_qadd, fun a => ⟨qmultiply_zero a, qmultiply_one a, qmultiply_two a⟩,
    qmultiply_c128_r128, fun a b => ⟨qdot_r128 a, qdot_comm a b⟩⟩
end

section
/-! PROOFS. Moves of bytes (42_gf256_vec.md R121, 45_aes_enc.md R221): a move chooses which element stands where and leaves
its value alone, so it commutes with every function applied to each byte. -/

namespace Sys2Proof.Machine

/-! ### Within a word -/

theorem elem_vrotl (w : Word32) (k : Nat) {j : Nat} (hj : j < 4) : elem (vrotl w k) j = elem w ((j + k) % 4) := by
  match j, hj with
  | 0, _ | 1, _ | 2, _ | 3, _ => simp [vrotl]

theorem mapElems_vrotl (f : Byte → Byte) (w : Word32) (k : Nat) : mapElems f (vrotl w k) = vrotl (mapElems f w) k := by
  refine word_ext fun j hj => ?_
  rw [elem_mapElems f _ hj, elem_vrotl w k hj, elem_vrotl _ k hj, elem_mapElems f w (Nat.mod_lt _ (by decide))]

/-! ### Within a block -/

theorem matOf_congr {f g : Nat → Nat → Byte} (h : ∀ i < 4, ∀ j < 4, f i j = g i j) : matOf f = matOf g := by
  refine block_ext_row fun i hi => word_ext fun j hj => ?_
  rw [elem_row _ hj, elem_row _ hj, byte_matOf f hi hj, byte_matOf g hi hj, h i hi j hj]

theorem mapRows_mapElems_matOf (f : Byte → Byte) (g : Nat → Nat → Byte) :
    mapRows (mapElems f) (matOf g) = matOf fun i j => f (g i j) := by
  simp [mapRows, mapElems, matOf]

/-- Element `(i, j)` of the moved block is element `(r i j, j)` of the block before. -/
theorem matOf_st_mapRows_mapElems (f : Byte → Byte) (x : Block) {r : Nat → Nat → Nat} (hr : ∀ i j, r i j < 4) :
    matOf (fun i j => st (mapRows (mapElems f) x) (r i j) j) = mapRows (mapElems f) (matOf fun i j => st x (r i j) j) := by
  rw [mapRows_mapElems_matOf]
  refine matOf_congr fun i _ j hj => byte_mapRows_mapElems f x ?_
  have := hr i j
  omega

/-- ShiftRows commutes with every function on the bytes. -/
theorem shiftrows_mapRows_mapElems (f : Byte → Byte) (x : Block) :
    shiftrows (mapRows (mapElems f) x) = mapRows (mapElems f) (shiftrows x) :=
  matOf_st_mapRows_mapElems f x fun _ _ => Nat.mod_lt _ (by decide)

end Sys2Proof.Machine
end

section
/-! PROOFS. The two commands of 44_aes_key.md: what each answers when its guards pass. -/

namespace Sys2Proof.Machine

/-- `AES.KEXP` has no guard (R190). -/
theorem exec_aesKexp (rs1 rs2 : RegIdx) (s : State) :
    exec (.aesKexp rs1 rs2) s = .next (s.loadSchedule (keyExpand (s.reg rs1) (s.reg rs2))) := rfl

/-- With a legal index and a valid key `AES.RKRD` writes the round key (R191). -/
theorem exec_aesRkrd_of_legal {r : Imm8} {s : State} (hr : r.toNat ≤ 14) (hkv : s.kv = true) (rd : RegIdx) :
    exec (.aesRkrd rd r) s = .next (s.setReg rd (rk128 s.rk r.toNat)) := by
  change guardImm (keyIndexLegal r) s (guardKey s _) = _
  rw [keyIndexLegal, decide_eq_true hr, guardImm_true, guardKey_of_kv hkv, writeBlock_eq]

end Sys2Proof.Machine
end

section
/-! PROOFS. The statements about the key schedule. -/

open Sys2Proof Sys2Proof.Machine

/-- Settles O37: `loadSchedule` writes `RK` and `KV` only, and `keyExpand` meets the recurrence. -/
theorem kexpWritesSchedule : Obligations.KexpWritesSchedule := by
  intro s rs1 rs2 _
  exact ⟨encodes_r71Word 0x40#8 .SS rfl rfl, _, exec_aesKexp rs1 rs2 s, isSchedule_keyExpand _ _, loadSchedule_kv s _,
    reg_loadSchedule s _, loadSchedule_fault s _, loadSchedule_cause s _, loadSchedule_dout s _, loadSchedule_din s _,
    loadSchedule_inbox s _⟩

/-- Settles O38: an index past 14 fails the first guard, `KV = 0` the second; past both the round key is written. -/
theorem rkrdReadsRoundKey : Obligations.RkrdReadsRoundKey := by
  intro s rd r _
  refine ⟨encodes_r71Word 0x41#8 .DI rfl rfl, fun hr hkv => ?_, fun hr => ?_, fun hr hkv => ?_⟩
  · exact writes_of_exec_eq (exec_aesRkrd_of_legal hr hkv rd)
  · have hillegal : (Instr.aesRkrd rd r).wellFormed = false := decide_eq_false (by omega)
    exact raises_of_exec_eq (exec_of_guardFault_eq_some (Instr.guardFault_of_not_wellFormed hillegal _))
  · have hlegal : (Instr.aesRkrd rd r).wellFormed = true := decide_eq_true hr
    exact raises_of_exec_eq (exec_of_guardFault_eq_some (hkv ▸ Instr.guardFault_of_no_key hlegal rfl))

/-- Settles O44: SubBytes and SubWord act on each byte by itself, ShiftRows and RotWord only move bytes. -/
theorem substituteAndMoveCommute : Obligations.SubstituteAndMoveCommute :=
  ⟨shiftrows_mapRows_mapElems sbox, fun t => mapElems_vrotl sbox t 1⟩
end


section
/-! PROOFS. The keyless AES transforms (45_aes_enc.md R220 to R222, 46_aes_dec.md R260 to R262), element by element. -/

namespace Sys2Proof.Machine

/-! ### Elements of a block (00_scope.md R14) -/

theorem elem_row_eq_st (v : Block) (i : Nat) {j : Nat} (hj : j < 4) : elem (row v i) j = st v i j := elem_row v hj

theorem block_ext_st {u v : Block} (h : ∀ i < 4, ∀ j < 4, st u i j = st v i j) : u = v := by
  refine block_ext_row fun i hi => word_ext fun j hj => ?_
  rw [elem_row_eq_st u i hj, elem_row_eq_st v i hj, h i hi j hj]

/-! ### Substitution and moves -/

theorem byte_subbytes (x : Block) {k : Nat} (hk : k < 16) : byte (subbytes x) k = sbox (byte x k) :=
  byte_mapRows_mapElems sbox x hk

theorem byte_invsubbytes (x : Block) {k : Nat} (hk : k < 16) : byte (invsubbytes x) k = isbox (byte x k) :=
  byte_mapRows_mapElems isbox x hk

theorem st_shiftrows (x : Block) {i j : Nat} (hi : i < 4) (hj : j < 4) : st (shiftrows x) i j = st x ((i + j) % 4) j :=
  byte_matOf _ hi hj

theorem st_invshiftrows (x : Block) {i j : Nat} (hi : i < 4) (hj : j < 4) :
    st (invshiftrows x) i j = st x ((i + 4 - j) % 4) j :=
  byte_matOf _ hi hj

/-! ### Products of each row with a matrix -/

theorem elem_mulv (m : Block) (w : Word32) {j : Nat} (hj : j < 4) : elem (mulv m w) j = vdot (row m j) w := by
  match j, hj with
  | 0, _ | 1, _ | 2, _ | 3, _ => simp [mulv]

theorem st_mapRows_mulv (m x : Block) {i j : Nat} (hi : i < 4) (hj : j < 4) :
    st (mapRows (mulv m) x) i j = vdot (row m j) (row x i) := by
  rw [← elem_row_eq_st _ _ hj, row_mapRows _ _ hi, elem_mulv _ _ hj]

theorem vdot_vec_row (a b c d : Byte) (x : Block) (i : Nat) :
    vdot (vec a b c d) (row x i) =
      multiply a (st x i 0) ^^^ multiply b (st x i 1) ^^^ multiply c (st x i 2) ^^^ multiply d (st x i 3) := by
  simp [vdot, elem_row_eq_st]

theorem one_multiply (a : Byte) : multiply 1 a = a := (multiply_comm 1 a).trans (multiply_one a)

/-- R222 written out for one row. -/
theorem st_mixcolumns (x : Block) {i : Nat} (hi : i < 4) :
    st (mixcolumns x) i 0 = multiply 2 (st x i 0) ^^^ multiply 3 (st x i 1) ^^^ st x i 2 ^^^ st x i 3 ∧
    st (mixcolumns x) i 1 = st x i 0 ^^^ multiply 2 (st x i 1) ^^^ multiply 3 (st x i 2) ^^^ st x i 3 ∧
    st (mixcolumns x) i 2 = st x i 0 ^^^ st x i 1 ^^^ multiply 2 (st x i 2) ^^^ multiply 3 (st x i 3) ∧
    st (mixcolumns x) i 3 = multiply 3 (st x i 0) ^^^ st x i 1 ^^^ st x i 2 ^^^ multiply 2 (st x i 3) := by
  have hst {j : Nat} (hj : j < 4) : st (mixcolumns x) i j = vdot (row mds j) (row x i) := st_mapRows_mulv mds x hi hj
  rw [hst (by decide), hst (by decide), hst (by decide), hst (by decide)]
  simp only [mds, row_mat_0, row_mat_1, row_mat_2, row_mat_3, vdot_vec_row, one_multiply, and_self]

/-- R262 written out for one row. -/
theorem st_invmixcolumns (x : Block) {i : Nat} (hi : i < 4) :
    st (invmixcolumns x) i 0 =
      multiply 14 (st x i 0) ^^^ multiply 11 (st x i 1) ^^^ multiply 13 (st x i 2) ^^^ multiply 9 (st x i 3) ∧
    st (invmixcolumns x) i 1 =
      multiply 9 (st x i 0) ^^^ multiply 14 (st x i 1) ^^^ multiply 11 (st x i 2) ^^^ multiply 13 (st x i 3) ∧
    st (invmixcolumns x) i 2 =
      multiply 13 (st x i 0) ^^^ multiply 9 (st x i 1) ^^^ multiply 14 (st x i 2) ^^^ multiply 11 (st x i 3) ∧
    st (invmixcolumns x) i 3 =
      multiply 11 (st x i 0) ^^^ multiply 13 (st x i 1) ^^^ multiply 9 (st x i 2) ^^^ multiply 14 (st x i 3) := by
  have hst {j : Nat} (hj : j < 4) : st (invmixcolumns x) i j = vdot (row imds j) (row x i) := st_mapRows_mulv imds x hi hj
  rw [hst (by decide), hst (by decide), hst (by decide), hst (by decide)]
  simp only [imds, row_mat_0, row_mat_1, row_mat_2, row_mat_3, vdot_vec_row, and_self]

end Sys2Proof.Machine
end

section
/-! PROOFS. The AES commands: what each answers when its guards pass, and the two faults of the guards. -/

namespace Sys2Proof.Machine

/-! ### The keyless commands (R230 to R232, R270 to R272) -/

theorem exec_aesSub (rd rs1 : RegIdx) (s : State) :
    exec (.aesSub rd rs1) s = .next (s.setReg rd (subbytes (s.reg rs1))) := rfl

theorem exec_aesShr (rd rs1 : RegIdx) (s : State) :
    exec (.aesShr rd rs1) s = .next (s.setReg rd (shiftrows (s.reg rs1))) := rfl

theorem exec_aesMix (rd rs1 : RegIdx) (s : State) :
    exec (.aesMix rd rs1) s = .next (s.setReg rd (mixcolumns (s.reg rs1))) := rfl

theorem exec_aesIsub (rd rs1 : RegIdx) (s : State) :
    exec (.aesIsub rd rs1) s = .next (s.setReg rd (invsubbytes (s.reg rs1))) := rfl

theorem exec_aesIshr (rd rs1 : RegIdx) (s : State) :
    exec (.aesIshr rd rs1) s = .next (s.setReg rd (invshiftrows (s.reg rs1))) := rfl

theorem exec_aesImix (rd rs1 : RegIdx) (s : State) :
    exec (.aesImix rd rs1) s = .next (s.setReg rd (invmixcolumns (s.reg rs1))) := rfl

/-! ### The readers of `RK` (R233 to R236, R273 to R275) -/

theorem guards_of_legal_of_kv {legal : Bool} {s : State} (hl : legal = true) (hkv : s.kv = true) (k : Result) :
    guardImm legal s (guardKey s k) = k := by
  rw [hl, guardImm_true, guardKey_of_kv hkv]

section
variable {s : State} (hkv : s.kv = true)
include hkv

theorem exec_aesArk_of_legal {r : Imm8} (hr : r.toNat ≤ 14) (rd rs1 : RegIdx) :
    exec (.aesArk rd rs1 r) s = .next (s.setReg rd (addroundkey s.rk (s.reg rs1) r.toNat)) :=
  guards_of_legal_of_kv (decide_eq_true hr) hkv _

theorem exec_aesEncr_of_legal {r : Imm8} (h1 : 1 ≤ r.toNat) (h13 : r.toNat ≤ 13) (rd rs1 : RegIdx) :
    exec (.aesEncr rd rs1 r) s = .next (s.setReg rd (encround s.rk (s.reg rs1) r.toNat)) :=
  guards_of_legal_of_kv (decide_eq_true ⟨h1, h13⟩) hkv _

theorem exec_aesDecr_of_legal {r : Imm8} (h1 : 1 ≤ r.toNat) (h13 : r.toNat ≤ 13) (rd rs1 : RegIdx) :
    exec (.aesDecr rd rs1 r) s = .next (s.setReg rd (decround s.rk (s.reg rs1) r.toNat)) :=
  guards_of_legal_of_kv (decide_eq_true ⟨h1, h13⟩) hkv _

theorem exec_aesEncl_of_kv (rd rs1 : RegIdx) :
    exec (.aesEncl rd rs1) s = .next (s.setReg rd (enclast s.rk (s.reg rs1))) := guardKey_of_kv hkv _

theorem exec_aesEnc_of_kv (rd rs1 : RegIdx) :
    exec (.aesEnc rd rs1) s = .next (s.setReg rd (encrypt s.rk (s.reg rs1))) := guardKey_of_kv hkv _

theorem exec_aesDecf_of_kv (rd rs1 : RegIdx) :
    exec (.aesDecf rd rs1) s = .next (s.setReg rd (decfirst s.rk (s.reg rs1))) := guardKey_of_kv hkv _

theorem exec_aesDec_of_kv (rd rs1 : RegIdx) :
    exec (.aesDec rd rs1) s = .next (s.setReg rd (decrypt s.rk (s.reg rs1))) := guardKey_of_kv hkv _

end

/-! ### The faults of the guards (60_exceptions.md R405, R406) -/

theorem raises_immRange {i : Instr} (hw : i.wellFormed = false) (s : State) : Raises i s 3 :=
  raises_of_exec_eq (exec_of_guardFault_eq_some (Instr.guardFault_of_not_wellFormed hw _))

theorem raises_keyNotValid {i : Instr} {s : State} (hw : i.wellFormed = true) (hk : i.needsKey = true)
    (hkv : s.kv = false) : Raises i s 4 :=
  raises_of_exec_eq (exec_of_guardFault_eq_some (hkv ▸ Instr.guardFault_of_no_key hw hk))

/-! ### Rounds in sequence, as folds over the round indices (R226, R265) -/

theorem encrounds_eq_foldl (rk : Vector Word32 Config.nRk) (n r : Nat) (x : Block) :
    encrounds rk n r x = (List.range' r n).foldl (encround rk) x := by
  induction n generalizing r x with
  | zero => rfl
  | succ n ih => exact ih _ _

theorem decrounds_eq_foldl (rk : Vector Word32 Config.nRk) (n : Nat) (x : Block) :
    decrounds rk n x = (List.range' 1 n).reverse.foldl (decround rk) x := by
  induction n generalizing x with
  | zero => rfl
  | succ n ih =>
    rw [decrounds, ih, List.range'_1_concat, List.reverse_append, List.reverse_singleton, List.singleton_append,
      List.foldl_cons, Nat.add_comm]

theorem encrypt_eq_foldl (rk : Vector Word32 Config.nRk) (p : Block) :
    encrypt rk p = enclast rk ((List.range' 1 13).foldl (encround rk) (addroundkey rk p 0)) := by
  rw [encrypt, encrounds_eq_foldl]

theorem decrypt_eq_foldl (rk : Vector Word32 Config.nRk) (c : Block) :
    decrypt rk c = addroundkey rk ((List.range' 1 13).reverse.foldl (decround rk) (decfirst rk c)) 0 := by
  rw [decrypt, decrounds_eq_foldl]

end Sys2Proof.Machine
end

section
/-! PROOFS. The statements about the AES transforms and the encryption commands. -/

open Sys2Proof Sys2Proof.Machine

/-- Settles O39: each command writes its transform of `V[rs1]`, whose elements are those of the rules. -/
theorem aesTransformCommands : Obligations.AesTransformCommands := by
  intro s rd rs1 _ v m
  refine ⟨⟨subbytes v, ⟨encodes_r71Word 0x50#8 .DS rfl rfl, ?_⟩, fun k => byte_subbytes v⟩,
    ⟨shiftrows v, ⟨encodes_r71Word 0x51#8 .DS rfl rfl, ?_⟩, fun i hi j hj => st_shiftrows v hi hj⟩,
    ⟨mixcolumns v, ⟨encodes_r71Word 0x52#8 .DS rfl rfl, ?_⟩, fun i hi => st_mixcolumns v hi⟩,
    ⟨invsubbytes v, ⟨encodes_r71Word 0x60#8 .DS rfl rfl, ?_⟩, fun k => byte_invsubbytes v⟩,
    ⟨invshiftrows v, ⟨encodes_r71Word 0x61#8 .DS rfl rfl, ?_⟩, fun i hi j hj => st_invshiftrows v hi hj⟩,
    ⟨invmixcolumns v, ⟨encodes_r71Word 0x62#8 .DS rfl rfl, ?_⟩, fun i hi => st_invmixcolumns v hi⟩⟩
  · exact writes_of_exec_eq (exec_aesSub rd rs1 s)
  · exact writes_of_exec_eq (exec_aesShr rd rs1 s)
  · exact writes_of_exec_eq (exec_aesMix rd rs1 s)
  · exact writes_of_exec_eq (exec_aesIsub rd rs1 s)
  · exact writes_of_exec_eq (exec_aesIshr rd rs1 s)
  · exact writes_of_exec_eq (exec_aesImix rd rs1 s)

/-- Settles O40: an illegal index fails the first guard and `KV = 0` the second; past both, the command writes its
function of `V[rs1]`, and the rounds of `AES.ENC` are a fold over the indices 1 to 13. -/
theorem aesEncryptCommands : Obligations.AesEncryptCommands := by
  intro s rd rs1 r _ v round last
  have hark : (Instr.aesArk rd rs1 r).wellFormed = decide (r.toNat ≤ 14) := rfl
  have hencr : (Instr.aesEncr rd rs1 r).wellFormed = decide (1 ≤ r.toNat ∧ r.toNat ≤ 13) := rfl
  refine ⟨encodes_r71Word 0x53#8 .DSI rfl rfl, fun hr hkv => ?_, fun hr => ?_, fun hr => ?_,
    encodes_r71Word 0x54#8 .DSI rfl rfl, fun h1 h13 hkv => ?_, fun hr => ?_, fun h1 h13 => ?_,
    encodes_r71Word 0x55#8 .DS rfl rfl, fun hkv => ?_, raises_keyNotValid rfl rfl,
    encodes_r71Word 0x56#8 .DS rfl rfl, fun hkv => ?_, raises_keyNotValid rfl rfl⟩
  · exact writes_of_exec_eq (exec_aesArk_of_legal hkv hr rd rs1)
  · exact raises_immRange (hark.trans (decide_eq_false (by omega))) s
  · exact raises_keyNotValid (hark.trans (decide_eq_true hr)) rfl
  · exact writes_of_exec_eq (exec_aesEncr_of_legal hkv h1 h13 rd rs1)
  · exact raises_immRange (hencr.trans (decide_eq_false (by omega))) s
  · exact raises_keyNotValid (hencr.trans (decide_eq_true ⟨h1, h13⟩)) rfl
  · exact writes_of_exec_eq (exec_aesEncl_of_kv hkv rd rs1)
  · have hwrites := writes_of_exec_eq (exec_aesEnc_of_kv hkv rd rs1)
    rwa [encrypt_eq_foldl] at hwrites
end

section
/-! PROOFS. Commands in sequence (45_aes_enc.md R234 to R236, 46_aes_dec.md R273 to R275): a faulted CORE refuses them all,
and otherwise each takes up the state the one before it left. -/

namespace Sys2Proof.Machine

/-! ### Writing one register again and again -/

@[simp] theorem setReg_setReg (s : State) (r : RegIdx) (x y : Block) : (s.setReg r x).setReg r y = s.setReg r y := by
  simp [State.setReg]

/-! ### A sequence that a fault ends -/

theorem hostDo_of_fault {s : State} (hf : s.fault = true) (i : Instr) : hostDo i s = .next s :=
  (step_present_command s (encode i) s.din).trans (issueWord_faulted hf _)

theorem hostDoAll_of_fault {s : State} (hf : s.fault = true) (is : List Instr) : hostDoAll is s = .next s := by
  induction is with
  | nil => rfl
  | cons i is ih => rw [hostDoAll, hostDo_of_fault hf, andThen_next, ih]

theorem hostDoAll_cons_of_exec {i : Instr} {s t : State} (hf : s.fault = false) (he : exec i s = .next t)
    (is : List Instr) : hostDoAll (i :: is) s = hostDoAll is t := by
  rw [hostDoAll, hostDo_eq hf, he, andThen_next]

/-- A command that raises the same fault as the first of a sequence ends as the sequence does. -/
theorem hostDo_eq_hostDoAll_of_guardFault {i j : Instr} {s : State} {c : FaultCause} (hf : s.fault = false)
    (hi : i.guardFault s.kv = some c) (hj : j.guardFault s.kv = some c) (is : List Instr) :
    hostDo i s = hostDoAll (j :: is) s := by
  rw [hostDo_eq hf, exec_of_guardFault_eq_some hi, hostDoAll_cons_of_exec hf (exec_of_guardFault_eq_some hj),
    hostDoAll_of_fault (recordFault_fault s c)]

/-! ### A sequence of writes of one register -/

/-- Commands that each replace `V[rd]` by a function of it fold these functions over it. -/
theorem hostDoAll_map_append {cmd : Nat → Instr} {f : Block → Nat → Block} {s : State} {rd : RegIdx}
    (hf : s.fault = false) {ns : List Nat}
    (hcmd : ∀ n ∈ ns, ∀ x, exec (cmd n) (s.setReg rd x) = .next (s.setReg rd (f x n))) (is : List Instr) (x : Block) :
    hostDoAll (ns.map cmd ++ is) (s.setReg rd x) = hostDoAll is (s.setReg rd (ns.foldl f x)) := by
  induction ns generalizing x with
  | nil => rfl
  | cons n ns ih =>
    obtain ⟨hn, hns⟩ := List.forall_mem_cons.mp hcmd
    rw [List.map_cons, List.cons_append, hostDoAll_cons_of_exec (s := s.setReg rd x) hf (hn x), ih hns, List.foldl_cons]

theorem toNat_ofNat_of_mem_rounds {n : Nat} (hn : n ∈ List.range' 1 13) :
    (BitVec.ofNat 8 n).toNat = n ∧ 1 ≤ n ∧ n ≤ 13 := by
  obtain ⟨h1, h13⟩ := List.mem_range'_1.mp hn
  exact ⟨Nat.mod_eq_of_lt (by omega), h1, by omega⟩

section
variable {s : State} (hf : s.fault = false) (hkv : s.kv = true)
include hf hkv

/-- `AES.ENC` as its rounds. -/
theorem hostDoAll_encryption (rd rs1 : RegIdx) :
    hostDoAll ([.aesArk rd rs1 0] ++ (List.range' 1 13).map (fun n => .aesEncr rd rd (BitVec.ofNat 8 n)) ++
      [.aesEncl rd rd]) s = .next (s.setReg rd (encrypt s.rk (s.reg rs1))) := by
  have hround : ∀ n ∈ List.range' 1 13, ∀ x, exec (.aesEncr rd rd (BitVec.ofNat 8 n)) (s.setReg rd x) =
      .next (s.setReg rd (encround s.rk x n)) := by
    intro n hn x
    obtain ⟨htoNat, h1, h13⟩ := toNat_ofNat_of_mem_rounds hn
    rw [exec_aesEncr_of_legal (s := s.setReg rd x) hkv (by omega) (by omega), htoNat, setReg_setReg, reg_setReg_same, setReg_rk]
  rw [List.append_assoc, List.singleton_append, hostDoAll_cons_of_exec hf (exec_aesArk_of_legal hkv (by decide) rd rs1),
    hostDoAll_map_append hf hround,
    hostDoAll_cons_of_exec (s := s.setReg rd _) hf (exec_aesEncl_of_kv (s := s.setReg rd _) hkv rd rd), setReg_setReg,
    reg_setReg_same, setReg_rk, encrypt_eq_foldl]
  rfl

/-- `AES.DEC` as its rounds. -/
theorem hostDoAll_decryption (rd rs1 : RegIdx) :
    hostDoAll ([.aesDecf rd rs1] ++ (List.range' 1 13).reverse.map (fun n => .aesDecr rd rd (BitVec.ofNat 8 n)) ++
      [.aesArk rd rd 0]) s = .next (s.setReg rd (decrypt s.rk (s.reg rs1))) := by
  have hround : ∀ n ∈ (List.range' 1 13).reverse, ∀ x, exec (.aesDecr rd rd (BitVec.ofNat 8 n)) (s.setReg rd x) =
      .next (s.setReg rd (decround s.rk x n)) := by
    intro n hn x
    obtain ⟨htoNat, h1, h13⟩ := toNat_ofNat_of_mem_rounds (List.mem_reverse.mp hn)
    rw [exec_aesDecr_of_legal (s := s.setReg rd x) hkv (by omega) (by omega), htoNat, setReg_setReg, reg_setReg_same, setReg_rk]
  rw [List.append_assoc, List.singleton_append, hostDoAll_cons_of_exec hf (exec_aesDecf_of_kv hkv rd rs1),
    hostDoAll_map_append hf hround,
    hostDoAll_cons_of_exec (s := s.setReg rd _) hf (exec_aesArk_of_legal (s := s.setReg rd _) hkv (by decide) rd rd),
    setReg_setReg, reg_setReg_same, setReg_rk, decrypt_eq_foldl]
  rfl

/-- The last encryption round as its transforms. -/
theorem hostDoAll_enclast (rd rs1 : RegIdx) :
    hostDoAll [.aesSub rd rs1, .aesShr rd rd, .aesArk rd rd 14] s =
      .next (s.setReg rd (enclast s.rk (s.reg rs1))) := by
  simp [hostDoAll, hostDo_eq, hf, hkv, exec_aesSub, exec_aesShr, exec_aesArk_of_legal, enclast]

theorem hostDoAll_decfirst (rd rs1 : RegIdx) :
    hostDoAll [.aesArk rd rs1 14, .aesIshr rd rd, .aesIsub rd rd] s =
      .next (s.setReg rd (decfirst s.rk (s.reg rs1))) := by
  simp [hostDoAll, hostDo_eq, hf, hkv, exec_aesIsub, exec_aesIshr, exec_aesArk_of_legal, decfirst]

theorem hostDoAll_encround {r : Imm8} (hr : r.toNat ≤ 14) (rd rs1 : RegIdx) :
    hostDoAll [.aesSub rd rs1, .aesShr rd rd, .aesMix rd rd, .aesArk rd rd r] s =
      .next (s.setReg rd (encround s.rk (s.reg rs1) r.toNat)) := by
  simp [hostDoAll, hostDo_eq, hf, hkv, hr, exec_aesSub, exec_aesShr, exec_aesMix, exec_aesArk_of_legal, encround]

theorem hostDoAll_decround {r : Imm8} (hr : r.toNat ≤ 14) (rd rs1 : RegIdx) :
    hostDoAll [.aesArk rd rs1 r, .aesImix rd rd, .aesIshr rd rd, .aesIsub rd rd] s =
      .next (s.setReg rd (decround s.rk (s.reg rs1) r.toNat)) := by
  simp [hostDoAll, hostDo_eq, hf, hkv, hr, exec_aesIsub, exec_aesIshr, exec_aesImix, exec_aesArk_of_legal, decround]

end

/-! ### In every state -/

/-- In a faulted state a command and a sequence are refused alike, so they need comparing without a fault only. -/
theorem hostDo_eq_hostDoAll {i : Instr} {is : List Instr} {s : State}
    (h : s.fault = false → hostDo i s = hostDoAll is s) : hostDo i s = hostDoAll is s := by
  cases hf : s.fault with
  | true => rw [hostDo_of_fault hf, hostDoAll_of_fault hf]
  | false => exact h hf

end Sys2Proof.Machine
end

section
/-! PROOFS. The statement about commands in sequence. -/

open Sys2Proof Sys2Proof.Machine

/-- Settles O42: without a key the block command and the first round raise one fault, which the rest of the sequence
leaves; with a key both sides write one value to `V[rd]`. -/
theorem blockCommandsAreTheirRounds : Obligations.BlockCommandsAreTheirRounds := by
  intro s rd rs1 r
  refine ⟨hostDo_eq_hostDoAll fun hf => ?_, hostDo_eq_hostDoAll fun hf => ?_, fun hkv =>
    ⟨hostDo_eq_hostDoAll fun hf => ?_, hostDo_eq_hostDoAll fun hf => ?_, fun h1 h13 =>
      ⟨hostDo_eq_hostDoAll fun hf => ?_, hostDo_eq_hostDoAll fun hf => ?_⟩⟩⟩
  · cases hkv : s.kv with
    | true => rw [hostDoAll_encryption hf hkv, hostDo_eq hf, exec_aesEnc_of_kv hkv]
    | false =>
      exact hostDo_eq_hostDoAll_of_guardFault hf (hkv ▸ Instr.guardFault_of_no_key rfl rfl)
        (hkv ▸ Instr.guardFault_of_no_key rfl rfl) _
  · cases hkv : s.kv with
    | true => rw [hostDoAll_decryption hf hkv, hostDo_eq hf, exec_aesDec_of_kv hkv]
    | false =>
      exact hostDo_eq_hostDoAll_of_guardFault hf (hkv ▸ Instr.guardFault_of_no_key rfl rfl)
        (hkv ▸ Instr.guardFault_of_no_key rfl rfl) _
  · rw [hostDoAll_enclast hf hkv, hostDo_eq hf, exec_aesEncl_of_kv hkv]
  · rw [hostDoAll_decfirst hf hkv, hostDo_eq hf, exec_aesDecf_of_kv hkv]
  · rw [hostDoAll_encround hf hkv (by omega), hostDo_eq hf, exec_aesEncr_of_legal hkv h1 h13]
  · rw [hostDoAll_decround hf hkv (by omega), hostDo_eq hf, exec_aesDecr_of_legal hkv h1 h13]
end

section
/-! PROOFS. The inverse transforms and the inverse cipher (46_aes_dec.md R260 to R265): each transform and its inverse undo
each other in both orders, and so do the rounds and the ciphers made of them. -/

namespace Sys2Proof.Machine

/-! ### The transforms -/

theorem invsubbytes_subbytes (x : Block) : invsubbytes (subbytes x) = x :=
  block_ext_byte fun k hk => by rw [byte_invsubbytes _ hk, byte_subbytes _ hk, isbox_sbox]

theorem subbytes_invsubbytes (x : Block) : subbytes (invsubbytes x) = x :=
  block_ext_byte fun k hk => by rw [byte_subbytes _ hk, byte_invsubbytes _ hk, sbox_isbox]

theorem invshiftrows_shiftrows (x : Block) : invshiftrows (shiftrows x) = x := by
  refine block_ext_st fun i hi j hj => ?_
  rw [st_invshiftrows _ hi hj, st_shiftrows _ (by omega) hj, show ((i + 4 - j) % 4 + j) % 4 = i by omega]

theorem shiftrows_invshiftrows (x : Block) : shiftrows (invshiftrows x) = x := by
  refine block_ext_st fun i hi j hj => ?_
  rw [st_shiftrows _ hi hj, st_invshiftrows _ (by omega) hj, show ((i + j) % 4 + 4 - j) % 4 = i by omega]

@[simp] theorem addroundkey_addroundkey (rk : Vector Word32 Config.nRk) (x : Block) (r : Nat) :
    addroundkey rk (addroundkey rk x r) r = x := by
  rw [addroundkey, addroundkey, BitVec.xor_assoc, BitVec.xor_self, BitVec.xor_zero]

/-! ### MixColumns, by matrix algebra over the AES field -/

/-- The product of two matrices given as blocks: `row(m, i)` times column `j` of `n`. -/
def matMul (m n : Block) : Block := matOf fun i j => vdot (row m i) (vec (st n 0 j) (st n 1 j) (st n 2 j) (st n 3 j))

/-- The identity matrix. -/
def matOne : Block := matOf fun i j => if i = j then 1 else 0

theorem vdot_mulv (m n : Block) (w : Word32) {i : Nat} (hi : i < 4) :
    vdot (row m i) (mulv n w) = vdot (row (matMul m n) i) w := by
  have hentry {j : Nat} (hj : j < 4) : elem (row (matMul m n) i) j =
      vdot (row m i) (vec (st n 0 j) (st n 1 j) (st n 2 j) (st n 3 j)) :=
    (elem_row_eq_st _ _ hj).trans (byte_matOf _ hi hj)
  apply toQuot_aesPoly_injective
  simp only [vdot, elem_mulv, hentry, elem_row_eq_st, elem_vec_0, elem_vec_1, elem_vec_2, elem_vec_3, toQuot_xor,
    toQuot_multiply, Nat.reduceLT]
  ring

theorem mulv_mulv (m n : Block) (w : Word32) : mulv m (mulv n w) = mulv (matMul m n) w :=
  word_ext fun j hj => by rw [elem_mulv _ _ hj, elem_mulv _ _ hj, vdot_mulv m n w hj]

theorem mulv_matOne (w : Word32) : mulv matOne w = w := by
  have hone (a : Byte) : multiply 1#8 a = a := one_multiply a
  have hzero (a : Byte) : multiply 0#8 a = 0#8 := by revert a; decide +kernel
  simp [matOne, matOf, mulv, vdot, hone, hzero, vec_elem]

theorem mapRows_mulv_cancel {m n : Block} (h : matMul m n = matOne) (x : Block) :
    mapRows (mulv m) (mapRows (mulv n) x) = x :=
  block_ext_row fun i hi => by rw [row_mapRows _ _ hi, row_mapRows _ _ hi, mulv_mulv, h, mulv_matOne]

/-- `IMDS` is the inverse of `MDS` (10_state.md R42). -/
theorem invmixcolumns_mixcolumns (x : Block) : invmixcolumns (mixcolumns x) = x :=
  mapRows_mulv_cancel (by decide +kernel) x

theorem mixcolumns_invmixcolumns (x : Block) : mixcolumns (invmixcolumns x) = x :=
  mapRows_mulv_cancel (by decide +kernel) x

/-! ### The rounds -/

section
variable (rk : Vector Word32 Config.nRk) (x : Block)

theorem decround_encround (r : Nat) : decround rk (encround rk x r) r = x := by
  rw [decround, encround, addroundkey_addroundkey, invmixcolumns_mixcolumns, invshiftrows_shiftrows,
    invsubbytes_subbytes]

theorem encround_decround (r : Nat) : encround rk (decround rk x r) r = x := by
  rw [encround, decround, subbytes_invsubbytes, shiftrows_invshiftrows, mixcolumns_invmixcolumns,
    addroundkey_addroundkey]

theorem decfirst_enclast : decfirst rk (enclast rk x) = x := by
  rw [decfirst, enclast, addroundkey_addroundkey, invshiftrows_shiftrows, invsubbytes_subbytes]

theorem enclast_decfirst : enclast rk (decfirst rk x) = x := by
  rw [enclast, decfirst, subbytes_invsubbytes, shiftrows_invshiftrows, addroundkey_addroundkey]

end

/-! ### The ciphers -/

/-- Rounds undone one by one, the last first. -/
theorem foldl_reverse_foldl_cancel {f g : Block → Nat → Block} (h : ∀ x n, g (f x n) n = x) (ns : List Nat) (x : Block) :
    ns.reverse.foldl g (ns.foldl f x) = x := by
  induction ns generalizing x with
  | nil => rfl
  | cons n ns ih => rw [List.foldl_cons, List.reverse_cons, List.foldl_append, ih, List.foldl_cons, List.foldl_nil, h]

theorem decrypt_encrypt (rk : Vector Word32 Config.nRk) (p : Block) : decrypt rk (encrypt rk p) = p := by
  rw [decrypt_eq_foldl, encrypt_eq_foldl, decfirst_enclast, foldl_reverse_foldl_cancel (decround_encround rk),
    addroundkey_addroundkey]

theorem encrypt_decrypt (rk : Vector Word32 Config.nRk) (c : Block) : encrypt rk (decrypt rk c) = c := by
  have hrounds := foldl_reverse_foldl_cancel (encround_decround rk) (List.range' 1 13).reverse (decfirst rk c)
  rw [List.reverse_reverse] at hrounds
  rw [encrypt_eq_foldl, decrypt_eq_foldl, addroundkey_addroundkey, hrounds, enclast_decfirst]

/-! ### One block command after the other (R265) -/

theorem sameExceptReg_setReg (s : State) (rd : RegIdx) (x : Block) : SameExceptReg rd s (s.setReg rd x) :=
  ⟨fun _ hr => reg_setReg_of_ne s x hr, rfl, rfl, rfl, rfl, rfl, rfl, rfl⟩

theorem exec_aesDec_of_encrypted {s : State} (hkv : s.kv = true) (rd : RegIdx) (x : Block) :
    exec (.aesDec rd rd) (s.setReg rd (encrypt s.rk x)) = .next (s.setReg rd x) := by
  rw [exec_aesDec_of_kv (s := s.setReg rd _) hkv, setReg_setReg, reg_setReg_same, setReg_rk, decrypt_encrypt]

theorem exec_aesEnc_of_decrypted {s : State} (hkv : s.kv = true) (rd : RegIdx) (x : Block) :
    exec (.aesEnc rd rd) (s.setReg rd (decrypt s.rk x)) = .next (s.setReg rd x) := by
  rw [exec_aesEnc_of_kv (s := s.setReg rd _) hkv, setReg_setReg, reg_setReg_same, setReg_rk, encrypt_decrypt]

end Sys2Proof.Machine
end

section
/-! PROOFS. The statement about decryption after encryption. -/

open Sys2Proof Sys2Proof.Machine

/-- Settles O45: the second command reads what the first wrote, under the same schedule, and the ciphers are inverse. -/
theorem decryptUndoesEncrypt : Obligations.DecryptUndoesEncrypt := by
  intro s rd rs1 _ hkv
  exact ⟨⟨_, _, exec_aesEnc_of_kv hkv rd rs1, exec_aesDec_of_encrypted hkv rd _, reg_setReg_same s rd _,
      sameExceptReg_setReg s rd _⟩,
    ⟨_, _, exec_aesDec_of_kv hkv rd rs1, exec_aesEnc_of_decrypted hkv rd _, reg_setReg_same s rd _,
      sameExceptReg_setReg s rd _⟩⟩
end

section
/-! PROOFS. The statements about the decryption commands and the inverse transforms (46_aes_dec.md). -/

namespace Sys2Proof.Machine

/-- InvShiftRows commutes with every function on the bytes. -/
theorem invshiftrows_mapRows_mapElems (f : Byte → Byte) (x : Block) :
    invshiftrows (mapRows (mapElems f) x) = mapRows (mapElems f) (invshiftrows x) :=
  matOf_st_mapRows_mapElems f x fun _ _ => Nat.mod_lt _ (by decide)

end Sys2Proof.Machine

open Sys2Proof Sys2Proof.Machine

/-- Settles O41: an illegal index fails the first guard and `KV = 0` the second; past both, the command writes its
function of `V[rs1]`, and the rounds of `AES.DEC` are a fold over the indices 13 down to 1. -/
theorem aesDecryptCommands : Obligations.AesDecryptCommands := by
  intro s rd rs1 r _ v round first
  have hdecr : (Instr.aesDecr rd rs1 r).wellFormed = decide (1 ≤ r.toNat ∧ r.toNat ≤ 13) := rfl
  refine ⟨encodes_r71Word 0x63#8 .DSI rfl rfl, fun h1 h13 hkv => ?_, fun hr => ?_, fun h1 h13 => ?_,
    encodes_r71Word 0x64#8 .DS rfl rfl, fun hkv => ?_, raises_keyNotValid rfl rfl,
    encodes_r71Word 0x65#8 .DS rfl rfl, fun hkv => ?_, raises_keyNotValid rfl rfl⟩
  · exact writes_of_exec_eq (exec_aesDecr_of_legal hkv h1 h13 rd rs1)
  · exact raises_immRange (hdecr.trans (decide_eq_false (by omega))) s
  · exact raises_keyNotValid (hdecr.trans (decide_eq_true ⟨h1, h13⟩)) rfl
  · exact writes_of_exec_eq (exec_aesDecf_of_kv hkv rd rs1)
  · have hwrites := writes_of_exec_eq (exec_aesDec_of_kv hkv rd rs1)
    rwa [decrypt_eq_foldl] at hwrites

/-- Settles O43: each inverse transform undoes its own, so each inverse round does, the transforms taken in reverse
order; InvShiftRows only moves the bytes on which InvSubBytes acts one by one. -/
theorem inverseTransforms : Obligations.InverseTransforms := fun rk x r =>
  ⟨invsubbytes_subbytes x, invshiftrows_shiftrows x, invmixcolumns_mixcolumns x, decround_encround rk x r,
    decfirst_enclast rk x, invshiftrows_mapRows_mapElems isbox x⟩
end

section
/-! PROOFS. The functions of 47_ctr_polyval_siv.md, in numbers and byte by byte (R295, R297, R298). -/

namespace Sys2Proof.Machine

/-! ### The counter (R295) -/

/-- A block in numbers: its low word, and the rest above it. -/
theorem toNat_shiftLeft_or_setWidth (x : Block) (w : Word32) :
    ((x >>> 32) <<< 32 ||| w.setWidth 128).toNat = x.toNat / 2 ^ 32 * 2 ^ 32 + w.toNat := by
  have hhigh : ((x >>> 32) <<< 32).toNat = (x.toNat / 2 ^ 32) <<< 32 := by
    rw [BitVec.toNat_shiftLeft, BitVec.toNat_ushiftRight, Nat.shiftRight_eq_div_pow, Nat.shiftLeft_eq]
    omega
  rw [BitVec.toNat_or, hhigh, BitVec.toNat_setWidth, Nat.mod_eq_of_lt (by omega),
    ← Nat.shiftLeft_add_eq_or_of_lt w.isLt, Nat.shiftLeft_eq]

theorem shiftLeft_or_w0 (x : Block) : (x >>> 32) <<< 32 ||| (w0 x).setWidth 128 = x := by
  apply BitVec.eq_of_toNat_eq
  rw [toNat_shiftLeft_or_setWidth, w0, BitVec.extractLsb'_toNat, Nat.shiftRight_zero]
  omega

theorem toNat_ctrinc (x : Block) :
    (ctrinc x).toNat = x.toNat / 2 ^ 32 * 2 ^ 32 + (x.toNat % 2 ^ 32 + 1) % 2 ^ 32 := by
  rw [← shiftLeft_or_w0 x, ctrinc_counter, shiftLeft_or_w0, toNat_shiftLeft_or_setWidth, BitVec.toNat_add, w0,
    BitVec.extractLsb'_toNat, Nat.shiftRight_zero]
  rfl

/-! ### Bit 7 of byte 15 (R297) -/

theorem byte_and (u v : Block) (k : Nat) : byte (u &&& v) k = byte u k &&& byte v k := by
  ext i hi; simp [byte]

theorem byte_or (u v : Block) (k : Nat) : byte (u ||| v) k = byte u k ||| byte v k := by
  ext i hi; simp [byte]

theorem byte_clr7_15 (x : Block) : byte (clr7 x) 15 = byte x 15 &&& 0x7f#8 := byte_and x _ 15

theorem byte_clr7_of_lt (x : Block) {k : Nat} (hk : k < 15) : byte (clr7 x) k = byte x k := by
  have hmask : ∀ k < 15, byte (~~~(1#128 <<< 127)) k = BitVec.allOnes 8 := by decide
  rw [clr7, byte_and, hmask k hk, BitVec.and_allOnes]

theorem byte_set7_15 (x : Block) : byte (set7 x) 15 = byte x 15 ||| 0x80#8 := byte_or x _ 15

theorem byte_set7_of_lt (x : Block) {k : Nat} (hk : k < 15) : byte (set7 x) k = byte x k := by
  have hmask : ∀ k < 15, byte (1#128 <<< 127) k = 0#8 := by decide
  rw [set7, byte_or, hmask k hk, BitVec.or_zero]

/-! ### Comparing tags (R298) -/

theorem getLsbD_foldl_or {w : Nat} (f : Nat → BitVec w) (ks : List Nat) (x : BitVec w) (n : Nat) :
    (ks.foldl (fun acc k => acc ||| f k) x).getLsbD n = true ↔
      x.getLsbD n = true ∨ ∃ k ∈ ks, (f k).getLsbD n = true := by
  induction ks generalizing x with
  | nil => simp
  | cons k ks ih => rw [List.foldl_cons, ih]; simp [or_assoc]

/-- A bit of `tagdiff` is set exactly when some byte position differs in it. -/
theorem getLsbD_tagdiff (a b : Block) (n : Nat) :
    (tagdiff a b).getLsbD n = true ↔ ∃ k < 16, (byte a k).getLsbD n ≠ (byte b k).getLsbD n := by
  rw [tagdiff, getLsbD_foldl_or]
  simp

theorem tagdiff_eq_zero_iff (a b : Block) : tagdiff a b = 0 ↔ a = b := by
  constructor
  · intro h
    refine block_ext_byte fun k hk => BitVec.eq_of_getLsbD_eq fun n _ => ?_
    by_contra hne
    have hbit := (getLsbD_tagdiff a b n).mpr ⟨k, hk, hne⟩
    simp [h] at hbit
  · rintro rfl
    refine BitVec.eq_of_getLsbD_eq fun n _ => ?_
    have hbit : ¬ (tagdiff a a).getLsbD n = true := by simp [getLsbD_tagdiff]
    simpa using hbit

end Sys2Proof.Machine
end

section
/-! PROOFS. The statement about the single steps of CTR, POLYVAL and GCM-SIV. -/

open Sys2Proof Sys2Proof.Machine

/-- Settles O46: each command packs its operands in its row's format and writes its function of the registers it reads,
`PV.STEP` that of the old `V[rd]` too. -/
theorem sivStepCommands : Obligations.SivStepCommands := by
  intro s rd rs1 rs2 _ a b
  have hctr := toNat_ctrinc a
  refine ⟨⟨ctrinc a, ⟨encodes_r71Word 0x70#8 .DS rfl rfl, writes_of_exec_eq rfl⟩, by omega, by omega⟩,
    ⟨encodes_r71Word 0x71#8 .DSS rfl rfl, writes_of_exec_eq rfl⟩,
    ⟨clr7 a, ⟨encodes_r71Word 0x72#8 .DS rfl rfl, writes_of_exec_eq rfl⟩, byte_clr7_15 a, fun k => byte_clr7_of_lt a⟩,
    ⟨set7 a, ⟨encodes_r71Word 0x73#8 .DS rfl rfl, writes_of_exec_eq rfl⟩, byte_set7_15 a, fun k => byte_set7_of_lt a⟩,
    tagdiff a b, ⟨encodes_r71Word 0x74#8 .DSS rfl rfl, writes_of_exec_eq rfl⟩, fun n _ => getLsbD_tagdiff a b n,
    tagdiff_eq_zero_iff a b⟩
end

section
/-! PROOFS. The statement about the system commands (48_system.md). -/

open Sys2Proof Sys2Proof.Machine

/-- Settles O27: each command packs its operands in its row's format; `SYS.LD` and `SYS.MOV` write one register,
`SYS.ST` writes `DOUT`. -/
theorem systemCommands : Obligations.SystemCommands := by
  intro s rd rs1 _
  exact ⟨⟨encodes_r71Word 0x00#8 .N rfl rfl, rfl⟩,
    ⟨encodes_r71Word 0x01#8 .D rfl rfl, writes_of_exec_eq rfl⟩,
    ⟨encodes_r71Word 0x02#8 .S rfl rfl, _, rfl, rfl, fun _ => rfl, rfl, rfl, rfl, rfl, rfl, rfl⟩,
    ⟨encodes_r71Word 0x03#8 .DS rfl rfl, writes_of_exec_eq rfl⟩⟩
end

section
/-! PROOFS. CTR (49_composition.md R351, R352) is the message XOR one keystream; `pad` and the length block (R357, R358)
by their lengths and bytes. -/

namespace Sys2Proof.Machine

/-! ### Bytewise XOR -/

@[simp] theorem length_xorBytes (x y : List Byte) : (xorBytes x y).length = min x.length y.length :=
  List.length_zipWith

/-- XOR with a string in two parts is XOR part by part. -/
theorem xorBytes_append (m k l : List Byte) :
    xorBytes m (k ++ l) = xorBytes (m.take k.length) k ++ xorBytes (m.drop k.length) l := by
  rw [← List.take_append_drop k.length (xorBytes m (k ++ l)), xorBytes, List.take_zipWith, List.drop_zipWith,
    List.take_left, List.drop_left]
  rfl

theorem xorBytes_xorBytes_cancel {m k : List Byte} (h : m.length ≤ k.length) : xorBytes (xorBytes m k) k = m := by
  refine List.ext_getElem (by simp [h]) fun j _ _ => ?_
  simp [xorBytes]

/-! ### The keystream -/

/-- The encryptions of `n` counter blocks, from `cb` on, as one byte string. -/
def keystream (rk : Vector Word32 Config.nRk) : (n : Nat) → (cb : Block) → List Byte
  | 0, _ => []
  | n + 1, cb => bytesOf (encrypt rk cb) ++ keystream rk n (ctrinc cb)

section
variable (rk : Vector Word32 Config.nRk)

@[simp] theorem length_keystream (n : Nat) (cb : Block) : (keystream rk n cb).length = 16 * n := by
  induction n generalizing cb with
  | zero => rfl
  | succ n ih => rw [keystream, List.length_append, length_bytesOf, ih]; omega

theorem ctrStrides_strides (n : Nat) (cb : Block) (m : List Byte) :
    ctrStrides rk cb (strides n m) = xorBytes m (keystream rk n cb) := by
  induction n generalizing cb m with
  | zero => exact List.zipWith_nil_right.symm
  | succ n ih => rw [strides, ctrStrides, ih, keystream, xorBytes_append, length_bytesOf]

/-- `CTR` is one XOR with the keystream of as many blocks as the message has strides. -/
theorem ctr_eq_xorBytes_keystream (cb : Block) (m : List Byte) :
    ctr rk cb m = xorBytes m (keystream rk (strideCount m) cb) :=
  ctrStrides_strides rk _ cb m

theorem length_le_length_keystream (cb : Block) (m : List Byte) :
    m.length ≤ (keystream rk (strideCount m) cb).length := by
  rw [length_keystream, strideCount]
  omega

@[simp] theorem length_ctr (cb : Block) (m : List Byte) : (ctr rk cb m).length = m.length := by
  rw [ctr_eq_xorBytes_keystream, length_xorBytes, Nat.min_eq_left (length_le_length_keystream rk cb m)]

theorem ctr_ctr (cb : Block) (m : List Byte) : ctr rk cb (ctr rk cb m) = m := by
  have hcount : strideCount (ctr rk cb m) = strideCount m := by rw [strideCount, length_ctr, strideCount]
  rw [ctr_eq_xorBytes_keystream, hcount, ctr_eq_xorBytes_keystream,
    xorBytes_xorBytes_cancel (length_le_length_keystream rk cb m)]

/-- Byte `j` of the keystream is byte `j mod 16` of block `j div 16`. -/
theorem getElem?_keystream {n j : Nat} (hj : j < 16 * n) (cb : Block) :
    (keystream rk n cb)[j]? = some (byte (encrypt rk (ctrinc^[j / 16] cb)) (j % 16)) := by
  induction n generalizing cb j with
  | zero => omega
  | succ n ih =>
    rw [keystream]
    by_cases h16 : j < 16
    · have hlen : j < (bytesOf (encrypt rk cb)).length := by rwa [length_bytesOf]
      rw [List.getElem?_append_left hlen, List.getElem?_eq_getElem hlen, getElem_bytesOf, Nat.div_eq_of_lt h16,
        Nat.mod_eq_of_lt h16]
      rfl
    · have hdiv : j / 16 = (j - 16) / 16 + 1 := by omega
      have hmod : j % 16 = (j - 16) % 16 := by omega
      rw [List.getElem?_append_right (by rw [length_bytesOf]; omega), length_bytesOf, ih (by omega), hdiv, hmod,
        Function.iterate_succ_apply]

theorem getElem?_ctr (cb : Block) {m : List Byte} {j : Nat} (hj : j < m.length) :
    (ctr rk cb m)[j]? = some (m[j] ^^^ byte (encrypt rk (ctrinc^[j / 16] cb)) (j % 16)) := by
  have hkey : j < 16 * strideCount m := by rw [strideCount]; omega
  rw [ctr_eq_xorBytes_keystream, xorBytes, List.getElem?_zipWith, List.getElem?_eq_getElem hj,
    getElem?_keystream rk hkey]

end

/-- The counter after `t` steps: its low 32 bits advance modulo `2^32`, the others stay (R352). -/
theorem toNat_iterate_ctrinc (t : Nat) (x : Block) :
    (ctrinc^[t] x).toNat = x.toNat / 2 ^ 32 * 2 ^ 32 + (x.toNat % 2 ^ 32 + t) % 2 ^ 32 := by
  induction t with
  | zero => rw [Function.iterate_zero, id]; omega
  | succ t ih => rw [Function.iterate_succ_apply', toNat_ctrinc, ih]; omega

/-! ### Lengths and bytes of the constructions -/

@[simp] theorem length_leBytes (k n : Nat) : (leBytes k n).length = k := by simp [leBytes]

theorem getElem?_leBytes {k j : Nat} (hj : j < k) (n : Nat) :
    (leBytes k n)[j]? = some (BitVec.ofNat 8 (n / 256 ^ j)) := by
  simp [leBytes, hj]

@[simp] theorem length_lenblock (a p : List Byte) : (lenblock a p).length = 16 := by simp [lenblock, le64]

theorem length_pad (x : List Byte) : (pad x).length = x.length + (16 - x.length % 16) % 16 := by simp [pad]

theorem length_sivInput_mod (a p : List Byte) : (sivInput a p).length % 16 = 0 := by
  rw [sivInput, List.length_append, List.length_append, length_pad, length_pad, length_lenblock]
  omega

/-- Byte `j` of the first half of the length block is that of the bit length of the associated data (R358). -/
theorem getElem?_lenblock_low {j : Nat} (hj : j < 8) (a p : List Byte) :
    (lenblock a p)[j]? = some (BitVec.ofNat 8 (8 * a.length / 256 ^ j)) := by
  rw [lenblock, le64, le64, List.getElem?_append_left (by rwa [length_leBytes]), getElem?_leBytes hj]

/-- Byte `j` of the second half is that of the bit length of the plaintext. -/
theorem getElem?_lenblock_high {j : Nat} (hj : j < 8) (a p : List Byte) :
    (lenblock a p)[8 + j]? = some (BitVec.ofNat 8 (8 * p.length / 256 ^ j)) := by
  rw [lenblock, le64, le64, List.getElem?_append_right (by rw [length_leBytes]; omega), length_leBytes,
    Nat.add_sub_cancel_left, getElem?_leBytes hj]

end Sys2Proof.Machine
end

section
/-! PROOFS. The statements about the constructions and the host's sequences (49_composition.md). -/

open Sys2Proof Sys2Proof.Machine

/-- Settles O47: byte `j` of the keystream comes from the counter block after `j div 16` steps. -/
theorem ctrBytes : Obligations.CtrBytes := by
  intro rk cb m
  refine ⟨length_ctr rk cb m, fun j hj => ?_⟩
  have hcount := toNat_iterate_ctrinc (j / 16) cb
  exact ⟨ctrinc^[j / 16] cb, by omega, by omega, getElem?_ctr rk cb hj⟩

/-- Settles O48: `CTR` keeps the length, so both passes XOR with one keystream. -/
theorem ctrInvolution : Obligations.CtrInvolution := ctr_ctr

/-- Settles O49: the zero bytes `pad` adds are the distance to the next multiple of 16. -/
theorem padRule : Obligations.PadRule := by
  intro x
  exact ⟨(16 - x.length % 16) % 16, rfl, by omega, by omega, fun y hy => by omega⟩

/-- Settles O51: `CTR` undoes itself under the tag's counter block, and the plaintext it gives back has the tag sent. -/
theorem sivRoundTrip : Obligations.SivRoundTrip := by
  intro k n p a
  have htag := blk_bytesOf (sivtag (blk (derive k n).1) (keyexpand (derive k n).2) n a p)
  rw [sivEncrypt, sivDecrypt_append (p := p) a (length_bytesOf _), htag, if_pos ((tagdiff_eq_zero_iff _ _).mpr rfl)]
  rw [htag]
  exact ctr_ctr _ _ p

/-- Settles O52. -/
theorem hostDeriveComputesDerive : Obligations.HostDeriveComputesDerive := fun k n _ hf => hostDerive_spec k n hf

/-- Settles O53. -/
theorem hostSetupLoadsKeys : Obligations.HostSetupLoadsKeys := fun authKey encKey _ hf =>
  hostSetup_spec authKey encKey hf

/-- Settles O54: the sequence leaves `sivtag` in `V3` and has the frame `Keeps`. -/
theorem hostTagComputesSivtag : Obligations.HostTagComputesSivtag := by
  intro n a p s hf hk
  obtain ⟨t, ht, h3, hkeep⟩ := hostTag_spec n a p hf hk
  exact ⟨t, ht, h3, hkeep.hashKey, hkeep.tag, hkeep.rk, hkeep.kv.trans hk, hkeep.fault.trans hf, hkeep.inbox⟩

/-- Settles O55: the sequence returns `CTR` of the message and has the frame `Keeps`. -/
theorem hostCtrComputesCtr : Obligations.HostCtrComputesCtr := by
  intro m s hf hk
  obtain ⟨t, ht, hkeep⟩ := hostCtr_spec m hf hk
  exact ⟨t, ht, hkeep.hashKey, hkeep.tag, hkeep.rk, hkeep.kv.trans hk, hkeep.fault.trans hf, hkeep.inbox⟩

/-- Settles O50: `CTR` keeps the length and padding makes whole blocks. -/
theorem constructionLengths : Obligations.ConstructionLengths := by
  intro k n p a
  refine ⟨⟨?_, ?_, length_sivInput_mod a p, ?_⟩,
    ⟨length_lenblock a p, fun j hj => ⟨getElem?_lenblock_low hj a p, getElem?_lenblock_high hj a p⟩⟩, rfl⟩
  · simp [derive]
  · simp [derive]
  · simp [sivEncrypt]
end

section
/-! PROOFS. The reserved-field check against the statements' table (60_exceptions.md R404), the faults of a command at
the port (R400), and runs of a faulted CORE (R411, R413). -/

namespace Sys2Proof.Machine

/-! ### The reserved-field check -/

theorem decode_eq_reservedField_iff {w : Word32} {row : OpRow} (h : rowOf (opField w) = some row) :
    decode w = .error .reservedField ↔ w &&& row.format.mask ≠ matchWord row.op := by
  rw [decode_of_row h]
  split <;> simp [*]

/-- No opcode stands twice in the statements' table. -/
theorem find_specRows_of_mem : ∀ row ∈ specRows, specRows.find? (fun r => r.1 == row.1) = some row := by decide

/-- The model's row for a word whose opcode the statements list, with the mask they list. -/
theorem rowOf_of_mem_specRows {row : Nat × Nat} (hrow : row ∈ specRows) {w : Word32}
    (hop : w.toNat / 2 ^ 24 = row.1) : ∃ r, rowOf (opField w) = some r ∧ r.format.mask.toNat = row.2 := by
  have hfind := find_specRows_of_mem row hrow
  rw [← hop, ← toNat_opField, find_specRows] at hfind
  obtain ⟨r, hr, rfl⟩ := Option.map_eq_some_iff.mp hfind
  exact ⟨r, hr, rfl⟩

/-! ### What a command at the port decides from its word and `KV` (R400) -/

/-- A command presented while `FAULT = 0` fails no check of R77 and leaves `FAULT` at 0, or it ends in the fault of the
first check it fails and writes nothing else (O6). -/
theorem step_command_specFault {s t : State} {w : Word32} {d : Block} {rest : List HostMove} (hf : s.fault = false)
    (hin : s.inbox = .command w d :: rest) (ht : step s = .next t) :
    (specFault w s.kv = none ∧ t.fault = false) ∨
    ∃ c, specFault w s.kv = some c ∧ t.fault = true ∧ t.cause = causeCode c ∧ (∀ r, t.reg r = s.reg r) ∧
      t.rk = s.rk ∧ t.kv = s.kv ∧ t.dout = s.dout := by
  obtain ⟨hfails, hpasses⟩ := decodeOrder s w d rest hf hin
  cases hc : specFault w s.kv with
  | none =>
    obtain ⟨-, u, -, -, hu, huf, -⟩ := hpasses hc
    obtain rfl := Host.Outcome.next.inj (hu.symm.trans ht)
    exact .inl ⟨rfl, huf⟩
  | some c =>
    obtain ⟨u, hu, hfault⟩ := hfails c hc
    obtain rfl := Host.Outcome.next.inj (hu.symm.trans ht)
    exact .inr ⟨c, rfl, hfault⟩

/-! ### Runs of a faulted CORE -/

theorem SameCore.refl (s : State) : SameCore s s := ⟨fun _ => rfl, rfl, rfl, rfl, rfl, rfl⟩

theorem SameCore.trans {s t u : State} (h : SameCore s t) (h' : SameCore t u) : SameCore s u := by
  obtain ⟨hreg, hrk, hkv, hfault, hcause, hdout⟩ := h
  obtain ⟨hreg', hrk', hkv', hfault', hcause', hdout'⟩ := h'
  exact ⟨fun r => (hreg' r).trans (hreg r), hrk'.trans hrk, hkv'.trans hkv, hfault'.trans hfault, hcause'.trans hcause,
    hdout'.trans hdout⟩

theorem SameCore.fault {s t : State} (h : SameCore s t) : t.fault = s.fault := by
  obtain ⟨-, -, -, hfault, -, -⟩ := h
  exact hfault

theorem SameCore.status {s t : State} (h : SameCore s t) : t.status = s.status := by
  obtain ⟨-, -, hkv, hfault, hcause, -⟩ := h
  rw [State.status, hkv, hfault, hcause, State.status]

theorem status_resetCore (s : State) : s.resetCore.status = 0 := by simp [State.status]

/-- `STATUS` after a key-not-valid fault (R406). -/
theorem status_of_keyNotValid {s : State} (hkv : s.kv = false) (hf : s.fault = true) (hc : s.cause = 4) :
    s.status = 0x42#8 := by
  rw [State.status, hkv, hf, hc]; rfl

/-- A step of a faulted CORE whose next move is no reset takes that move and changes nothing else. -/
theorem step_of_fault_of_no_reset {s : State} (hf : s.fault = true) (hin : ∀ rest, s.inbox ≠ .reset :: rest) :
    ∃ t, step s = .next t ∧ SameCore s t ∧ t.inbox = s.inbox.tail := by
  rcases step_cases s with ⟨hnil, hs⟩ | ⟨rest, hreset, -⟩ | ⟨w, d, rest, hcmd, -, hs⟩ | ⟨_, _, _, _, -, hf', -⟩ |
    ⟨_, _, _, _, -, hf', -⟩
  · exact ⟨s, hs, .refl s, by rw [hnil]; rfl⟩
  · exact absurd hreset (hin rest)
  · exact ⟨_, hs, .refl s, by rw [hcmd]; rfl⟩
  · exact absurd (hf.symm.trans hf') nofun
  · exact absurd (hf.symm.trans hf') nofun

theorem run_succ_of_step {M : Host.Core} {s t : M.State} (hs : M.step s = .next t) (n : Nat) :
    M.run (n + 1) s = M.run n t := by
  rw [Host.Core.run, hs]

theorem RunsTo.succ {n : Nat} {s t u : State} (hs : step s = .next t) (hrun : RunsTo n t u) : RunsTo (n + 1) s u :=
  (run_succ_of_step (M := Sys2Proof.core) hs n).trans hrun

theorem runsTo_of_fault_of_no_reset (n : Nat) {s : State} (hf : s.fault = true)
    (hin : ∀ m ∈ s.inbox.take n, m ≠ .reset) : ∃ t, RunsTo n s t ∧ SameCore s t := by
  induction n generalizing s with
  | zero => exact ⟨s, rfl, .refl s⟩
  | succ n ih =>
    have hnext : ∀ rest, s.inbox ≠ .reset :: rest := fun rest h => hin .reset (by simp [h]) rfl
    obtain ⟨t, ht, hsame, htail⟩ := step_of_fault_of_no_reset hf hnext
    have hin' : ∀ m ∈ t.inbox.take n, m ≠ .reset := by
      intro m hm
      rw [htail, ← List.drop_one, List.take_drop] at hm
      exact hin m (List.mem_of_mem_drop (Nat.add_comm 1 n ▸ hm))
    obtain ⟨u, hrun, hsame'⟩ := ih (hsame.fault.trans hf) hin'
    exact ⟨u, .succ ht hrun, hsame.trans hsame'⟩

end Sys2Proof.Machine
end

section
/-! PROOFS. The statements about faults (60_exceptions.md) and reset (70_reset_and_hazards.md). -/

open Sys2Proof Sys2Proof.Machine

/-- Settles O5: the statements' mask is that of the model's row, by which the decoder makes the check. -/
theorem reservedFields : Obligations.ReservedFields := by
  intro row hrow w hop
  obtain ⟨r, hr, hmask⟩ := rowOf_of_mem_specRows hrow hop
  obtain ⟨-, hrop⟩ := rowOf_some hr
  rw [decode_eq_reservedField_iff hr, hrop, matchWord, ← hmask, ← hop, ← toNat_opField, BitVec.ofNat_toNat,
    BitVec.ofNat_toNat, BitVec.setWidth_eq]

/-- Settles O13, by induction on the length of the run. -/
theorem faultIsTerminal : Obligations.FaultIsTerminal := by
  intro n s hf hin
  obtain ⟨t, hrun, hsame⟩ := runsTo_of_fault_of_no_reset n hf hin
  exact ⟨t, hrun, hsame, hsame.status⟩

/-- Settles O23: an idle step and a reset end with `FAULT = 0`, and a command faults exactly when one of the checks of
R77 fails (O6), which read the word and `KV`. -/
theorem faultDetection : Obligations.FaultDetection := by
  constructor
  · intro s t ht hf htf
    rcases hin : s.inbox with _ | ⟨_ | _, rest⟩
    · obtain rfl := Host.Outcome.next.inj ((step_idle hin).symm.trans ht)
      exact absurd (hf.symm.trans htf) nofun
    · next w d =>
      rcases step_command_specFault hf hin ht with ⟨-, htf'⟩ | ⟨c, -, -, -, hframe⟩
      · exact absurd (htf'.symm.trans htf) nofun
      · exact ⟨⟨w, d, rest, rfl⟩, hframe⟩
    · obtain rfl := Host.Outcome.next.inj ((step_reset hin).symm.trans ht)
      exact absurd htf nofun
  · intro s1 s2 t1 t2 w d1 d2 hf1 hf2 hkv ht1 ht2
    have h1 := step_command_specFault (s := s1.present [.command w d1]) hf1 rfl ht1
    have h2 := step_command_specFault (s := s2.present [.command w d2]) hf2 rfl ht2
    rw [present_kv] at h1 h2
    rw [hkv] at h1
    rcases h1 with ⟨hnone1, htf1⟩ | ⟨c1, hc1, htf1, htc1, -⟩ <;>
      rcases h2 with ⟨hnone2, htf2⟩ | ⟨c2, hc2, htf2, htc2, -⟩
    · exact ⟨htf1.trans htf2.symm, fun h => absurd (htf1.symm.trans h) nofun⟩
    · exact absurd (hnone1.symm.trans hc2) nofun
    · exact absurd (hnone2.symm.trans hc1) nofun
    · obtain rfl : c1 = c2 := Option.some.inj (hc1.symm.trans hc2)
      exact ⟨htf1.trans htf2.symm, fun _ => htc1.trans htc2.symm⟩

/-- Settles O10. -/
theorem idleStepHoldsState : Obligations.IdleStepHoldsState := fun _ => step_idle

/-- Settles O11: `raise` ends in `recordFault`, with the code of each cause. -/
theorem faultEntry : Obligations.FaultEntry := by
  intro c s
  exact ⟨s.recordFault c, rfl, rfl, by cases c <;> rfl, fun _ => rfl, rfl, rfl, rfl, rfl, rfl⟩

/-- Settles O16: the first word is `AES.ENC V1, V0` with `KV = 0`, the next three are refused, and the reset clears
`STATUS`. -/
theorem workedFault : Obligations.WorkedFault := by
  intro d1 d2 d3 d4 s
  have hdecode : decode 0x56200000#32 = .ok (.aesEnc 1 0) := decode_encode (.aesEnc 1 0)
  refine ⟨_, _, _, _, _,
    (step_command rfl).trans ((issueWord_ok rfl hdecode).trans (exec_of_guardFault_eq_some rfl)),
    (step_command rfl).trans (issueWord_faulted rfl _), (step_command rfl).trans (issueWord_faulted rfl _),
    (step_command rfl).trans (issueWord_faulted rfl _), step_reset rfl, ?_, ?_, ?_, rfl, ?_, status_resetCore _⟩
  · exact status_of_keyNotValid rfl rfl rfl
  · exact reg_reset 1
  · exact reg_reset 0
  · exact status_of_keyNotValid rfl rfl rfl

/-- Settles O14. -/
theorem resetMove : Obligations.ResetMove := fun s rest hin =>
  ⟨(s.takeMove rest).resetCore, step_reset hin, reg_resetCore _, fun n => by simp, rfl, rfl, rfl, rfl,
    status_resetCore _⟩
end
